-- ==== Sys2Proof/Word.lean ====
section
/-! DEFINITION. The word types of the block (00_scope.md R7, R10): bytes of the ports, 16-bit words of the link,
5-bit register addresses, and the 32-bit command word of 30_encoding.md R70. -/

namespace Sys2Proof

/-- `u8`: a port's content, a command byte, a compressed code. -/
abbrev Byte := BitVec 8

/-- `u16` or `i16`: a word sent or received over the link, a register value, a PCM sample. -/
abbrev Word := BitVec 16

/-- A codec register address, 0 to 31. -/
abbrev RegAddr := BitVec 5

/-- The command word in which a caller presents an operation (30_encoding.md R70). -/
abbrev CmdWord := BitVec 32

end Sys2Proof
end

