-- ==== Sys2Proof/Syntax.lean ====
section
/-! DEFINITION. The operations of the block, one constructor per row of spec/opcode_table.json (30_encoding.md R72). -/

namespace Sys2Proof

/-- An operation with its operands as 30_encoding.md R71 assembles them: the address operand is `A[4:0]` (`A[7:5]` is
ignored), the data operand `D[15:0]`, the byte operand `D[7:0]`. -/
inductive Instr where
  /-- NOP, R107. -/
  | nop
  /-- REG_READ a, 41_register_channel.md R126. -/
  | regRead (a : RegAddr)
  /-- REG_WRITE a, d, 41_register_channel.md R124. -/
  | regWrite (a : RegAddr) (d : Word)
  /-- SAMPLE_READ, 42_sample_pipe.md R142. -/
  | sampleRead
  /-- SAMPLE_WRITE d, 42_sample_pipe.md R140. -/
  | sampleWrite (d : Word)
  /-- ENC_ULAW pcm, 43_mulaw.md R162. -/
  | encUlaw (pcm : Word)
  /-- DEC_ULAW code, 43_mulaw.md R164. -/
  | decUlaw (code : Byte)
  /-- ENC_ALAW pcm, 44_alaw.md R182. -/
  | encAlaw (pcm : Word)
  /-- DEC_ALAW code, 44_alaw.md R184. -/
  | decAlaw (code : Byte)
  /-- CSR_RD, 40_port_access.md R100. -/
  | csrRd
  /-- CSR_WR b, 40_port_access.md R101. -/
  | csrWr (b : Byte)
  /-- WDH_WR b, 40_port_access.md R102. -/
  | wdhWr (b : Byte)
  /-- WDL_WR b, 40_port_access.md R103. -/
  | wdlWr (b : Byte)
  /-- RDH_RD, 40_port_access.md R105. -/
  | rdhRd
  /-- RDL_RD, 40_port_access.md R106. -/
  | rdlRd
  deriving DecidableEq, Repr

end Sys2Proof
end

