-- ==== Sys2Proof/WellFormed.lean ====
section
/-! DEFINITION. Which terms of `Instr` a command word can present. Every operand is bounded by its type but the byte of
CSR_WR, in which only bits 7 and 1 may be set (30_encoding.md R72, R77). -/

namespace Sys2Proof

/-- The bits of a CSR_WR byte that must be 0: `D[6:2]` and `D[0]` (30_encoding.md R72). -/
def csrReservedMask : Byte := 0x7D

/-- The byte sets no bit of the CSR but RESET_N (7) and ENABLE (1). -/
abbrev CsrByteOk (b : Byte) : Prop := b &&& csrReservedMask = 0

/-- The term is the decoding of some command word. -/
abbrev Instr.WellFormed : Instr → Prop
  | .csrWr b => CsrByteOk b
  | .nop | .regRead _ | .regWrite _ _ | .sampleRead | .sampleWrite _ | .encUlaw _ | .decUlaw _ | .encAlaw _
  | .decAlaw _ | .csrRd | .wdhWr _ | .wdlWr _ | .rdhRd | .rdlRd => True

end Sys2Proof
end

