-- ==== Sys2Proof/Decode.lean ====
section
/-! DEFINITION. The command word (30_encoding.md): its fields, the decoder, the encoder, the table of the opcode map, and
the assembly syntax of R79. -/

namespace Sys2Proof

/-- `OP`, bits 31..28 (R70). -/
def CmdWord.op (w : CmdWord) : BitVec 4 := w.extractLsb' 28 4

/-- `RSV`, bits 27..24 (R70). -/
def CmdWord.rsv (w : CmdWord) : BitVec 4 := w.extractLsb' 24 4

/-- `A`, bits 23..16 (R70). -/
def CmdWord.fieldA (w : CmdWord) : Byte := w.extractLsb' 16 8

/-- `D`, bits 15..0 (R70). -/
def CmdWord.fieldD (w : CmdWord) : Word := w.extractLsb' 0 16

/-- The address operand `a = A[4:0]`; `A[7:5]` is ignored (R71, 20_memory.md R51). -/
def CmdWord.operandA (w : CmdWord) : RegAddr := w.extractLsb' 16 5

/-- The byte operand `b = D[7:0]` (R71). -/
def CmdWord.operandB (w : CmdWord) : Byte := w.extractLsb' 0 8

/-- The bits `D[15:8]`, which must be 0 where the operand is a byte (R72). -/
def CmdWord.highD (w : CmdWord) : Byte := w.extractLsb' 8 8

/-- Why a command word is reserved, one name a condition of R77. -/
inductive Reserved where
  /-- `OP = 0xF`. -/
  | op
  /-- `RSV != 0`. -/
  | rsv
  /-- `A != 0` where it must be 0. -/
  | fieldA
  /-- `D`, or its high byte, not 0 where it must be 0. -/
  | fieldD
  /-- A CSR_WR byte with a bit other than 7 and 1 set. -/
  | csrBits
  deriving DecidableEq, Repr

/-- `A` must be 0. -/
def needA (w : CmdWord) (i : Instr) : Except Reserved Instr :=
  if w.fieldA = 0 then .ok i else .error .fieldA

/-- `A` and `D` must be 0. -/
def needAD (w : CmdWord) (i : Instr) : Except Reserved Instr :=
  if w.fieldD = 0 then needA w i else .error .fieldD

/-- `A` and `D[15:8]` must be 0. -/
def needAHigh (w : CmdWord) (i : Instr) : Except Reserved Instr :=
  if w.highD = 0 then needA w i else .error .fieldD

/-- The opcode map, R72, of a word whose RSV field is 0. -/
def decodeOp (w : CmdWord) : Except Reserved Instr :=
  match w.op.toNat with
  | 0x0 => needAD w .nop
  | 0x1 => if w.fieldD = 0 then .ok (.regRead w.operandA) else .error .fieldD
  | 0x2 => .ok (.regWrite w.operandA w.fieldD)
  | 0x3 => needAD w .sampleRead
  | 0x4 => needA w (.sampleWrite w.fieldD)
  | 0x5 => needA w (.encUlaw w.fieldD)
  | 0x6 => needAHigh w (.decUlaw w.operandB)
  | 0x7 => needA w (.encAlaw w.fieldD)
  | 0x8 => needAHigh w (.decAlaw w.operandB)
  | 0x9 => needAD w .csrRd
  | 0xA => if CsrByteOk w.operandB then needAHigh w (.csrWr w.operandB) else .error .csrBits
  | 0xB => needAHigh w (.wdhWr w.operandB)
  | 0xC => needAHigh w (.wdlWr w.operandB)
  | 0xD => needAD w .rdhRd
  | 0xE => needAD w .rdlRd
  | _ => .error .op

/-- The decoder: R70 to R72, refusing the reserved words of R77 by name. -/
def decode (w : CmdWord) : Except Reserved Instr :=
  if w.rsv = 0 then decodeOp w else .error .rsv

/-- The `OP` value of an operation (R72). -/
def opcode : Instr → BitVec 4
  | .nop => 0x0
  | .regRead _ => 0x1
  | .regWrite _ _ => 0x2
  | .sampleRead => 0x3
  | .sampleWrite _ => 0x4
  | .encUlaw _ => 0x5
  | .decUlaw _ => 0x6
  | .encAlaw _ => 0x7
  | .decAlaw _ => 0x8
  | .csrRd => 0x9
  | .csrWr _ => 0xA
  | .wdhWr _ => 0xB
  | .wdlWr _ => 0xC
  | .rdhRd => 0xD
  | .rdlRd => 0xE

/-- The `A` field of an operation: the address in its low five bits, else 0 (R70, R71). -/
def encodeA : Instr → Byte
  | .regRead a | .regWrite a _ => a.setWidth 8
  | .nop | .sampleRead | .sampleWrite _ | .encUlaw _ | .decUlaw _ | .encAlaw _ | .decAlaw _ | .csrRd | .csrWr _
  | .wdhWr _ | .wdlWr _ | .rdhRd | .rdlRd => 0

/-- The `D` field of an operation: its data operand, its byte operand with zeros above, else 0 (R70, R71). -/
def encodeD : Instr → Word
  | .regWrite _ d | .sampleWrite d | .encUlaw d | .encAlaw d => d
  | .decUlaw b | .decAlaw b | .csrWr b | .wdhWr b | .wdlWr b => b.setWidth 16
  | .nop | .regRead _ | .sampleRead | .csrRd | .rdhRd | .rdlRd => 0

/-- The command word of an operation: `OP`, `RSV = 0`, `A`, `D` (R70). -/
def encode (i : Instr) : CmdWord := opcode i ++ (0 : BitVec 4) ++ encodeA i ++ encodeD i

/-- A row of spec/opcode_table.json: a word is the row's when its masked bits are `pattern`. -/
structure OpcodeRow where
  mnemonic : String
  pattern : CmdWord
  mask : CmdWord
  deriving DecidableEq, Repr

/-- spec/opcode_table.json, the machine-readable copy of R72 and R77. -/
def opcodeTable : List OpcodeRow := [
  ⟨"NOP", 0x00000000, 0xFFFFFFFF⟩,
  ⟨"REG_READ", 0x10000000, 0xFF00FFFF⟩,
  ⟨"REG_WRITE", 0x20000000, 0xFF000000⟩,
  ⟨"SAMPLE_READ", 0x30000000, 0xFFFFFFFF⟩,
  ⟨"SAMPLE_WRITE", 0x40000000, 0xFFFF0000⟩,
  ⟨"ENC_ULAW", 0x50000000, 0xFFFF0000⟩,
  ⟨"DEC_ULAW", 0x60000000, 0xFFFFFF00⟩,
  ⟨"ENC_ALAW", 0x70000000, 0xFFFF0000⟩,
  ⟨"DEC_ALAW", 0x80000000, 0xFFFFFF00⟩,
  ⟨"CSR_RD", 0x90000000, 0xFFFFFFFF⟩,
  ⟨"CSR_WR", 0xA0000000, 0xFFFFFF7D⟩,
  ⟨"WDH_WR", 0xB0000000, 0xFFFFFF00⟩,
  ⟨"WDL_WR", 0xC0000000, 0xFFFFFF00⟩,
  ⟨"RDH_RD", 0xD0000000, 0xFFFFFFFF⟩,
  ⟨"RDL_RD", 0xE0000000, 0xFFFFFFFF⟩]

/-- The word is the row's. -/
abbrev OpcodeRow.Matches (r : OpcodeRow) (w : CmdWord) : Prop := w &&& r.mask = r.pattern

/-- The command word whose `nbits` low bits are `w`, numbered as spec/opcode_table.json numbers them, with the bits
above zero; `none` where the row is longer than a command word. -/
def tableWord (nbits w : Nat) : Option CmdWord :=
  if nbits ≤ 32 then some (BitVec.ofNat 32 (w % 2 ^ nbits)) else none

/-- What the decoder reads from an instruction whose bits are `w`, numbered as spec/opcode_table.json numbers them. -/
def decodeTableWord (nbits w : Nat) : Option Instr :=
  (tableWord nbits w).bind fun cw =>
    match decode cw with
    | .ok i => some i
    | .error _ => none

/-- One line of the spec's assembly syntax (R79), without the `vN <-` that names a caller-side slot. Operands are
numerals; a negative `pcm` is its two's-complement pattern. -/
inductive Asm where
  | nop
  | regRead (addr : Nat)
  | regWrite (addr value : Nat)
  | sampleRead
  | sampleWrite (value : Int)
  | encodeMulaw (pcm : Int)
  | decodeMulaw (byte : Byte)
  | encodeAlaw (pcm : Int)
  | decodeAlaw (byte : Byte)
  | csrRead
  | csrWrite (byte : Byte)
  | wdhWrite (byte : Byte)
  | wdlWrite (byte : Byte)
  | rdhRead
  | rdlRead
  deriving DecidableEq, Repr

/-- `(addr & 0xFF) << 16`. -/
def asmAddr (addr : Nat) : CmdWord := BitVec.ofNat 32 ((addr &&& 0xFF) <<< 16)

/-- `value & 0xFFFF`, of a numeral that may be negative. -/
def asmValue (v : Int) : CmdWord := (BitVec.ofInt 16 v).setWidth 32

/-- The command word of a line, the table of R79. -/
def Asm.word : Asm → CmdWord
  | .nop => 0x00000000
  | .regRead addr => 0x10000000 ||| asmAddr addr
  | .regWrite addr value => 0x20000000 ||| asmAddr addr ||| asmValue value
  | .sampleRead => 0x30000000
  | .sampleWrite value => 0x40000000 ||| asmValue value
  | .encodeMulaw pcm => 0x50000000 ||| asmValue pcm
  | .decodeMulaw byte => 0x60000000 ||| byte.setWidth 32
  | .encodeAlaw pcm => 0x70000000 ||| asmValue pcm
  | .decodeAlaw byte => 0x80000000 ||| byte.setWidth 32
  | .csrRead => 0x90000000
  | .csrWrite byte => 0xA0000000 ||| byte.setWidth 32
  | .wdhWrite byte => 0xB0000000 ||| byte.setWidth 32
  | .wdlWrite byte => 0xC0000000 ||| byte.setWidth 32
  | .rdhRead => 0xD0000000
  | .rdlRead => 0xE0000000

end Sys2Proof
end

