-- ==== Sys2Proof/Config.lean ====
section
/-! DEFINITION. What an implementation fixes (the parameters of 00_scope.md R8), the moves the agents may make at a step
(70_reset_and_hazards.md R230), and the free values of the model. -/

namespace Sys2Proof

/-- One bit among bits 7..5 of the command byte (00_scope.md R8). -/
inductive CmdBit where
  | bit7
  | bit6
  | bit5
  deriving DecidableEq, Repr

/-- The byte with that one bit set. -/
def CmdBit.mask : CmdBit → Byte
  | .bit7 => 0x80
  | .bit6 => 0x40
  | .bit5 => 0x20

/-- The parameters of 00_scope.md R8 that the model uses. The spec calls them arguments of the model and gives no value,
so a state carries them (`State.cfg`), no step changes them, and a statement about every state is one about every value
of them. DESIGN CHOICE, notes/assumptions/1.md. PORT_ADDR is absent: "not used: the model names ports". -/
structure Config where
  /-- `N_SETTLE`: no-operation cycles after a port access before the next status poll. -/
  nSettle : Nat
  /-- `POLL_LIMIT`: `none` is UNBOUNDED. -/
  pollLimit : Option Nat
  /-- `CMD_STROBE`. -/
  cmdStrobe : CmdBit
  /-- `CMD_READ`: `none` is zero. -/
  cmdRead : Option CmdBit
  /-- `N_CALLERS`. -/
  nCallers : Nat
  deriving DecidableEq, Repr

namespace Config

/-- The constraints of 00_scope.md R8: `N_SETTLE >= 1`, `POLL_LIMIT` unbounded or at least 1, `CMD_READ` zero or a bit
other than `CMD_STROBE`, `N_CALLERS >= 1`. -/
abbrev Valid (c : Config) : Prop :=
  1 ≤ c.nSettle ∧ c.pollLimit ≠ some 0 ∧ c.cmdRead ≠ some c.cmdStrobe ∧ 1 ≤ c.nCallers

/-- The reference values of 00_scope.md R8. DESIGN CHOICE (as reset values), notes/assumptions/1.md. -/
def reference : Config where
  nSettle := 2
  pollLimit := none
  cmdStrobe := .bit7
  cmdRead := some .bit5
  nCallers := 1

end Config

/-- A bus access in a direction the port surface does not have (10_state.md R20, 30_encoding.md R78). -/
inductive WrongAccess where
  | readWdh
  | readWdl
  | writeRdh (b : Byte)
  | writeRdl (b : Byte)
  deriving DecidableEq, Repr

/-- A move of one agent: what the scheduler picks at one step (00_scope.md R12, 70_reset_and_hazards.md R230). -/
inductive Turn where
  /-- The transaction FSM: a micro-step, or an idle tick. -/
  | fsm
  /-- The link's `L_TX`. -/
  | linkTx
  /-- The link's `L_RX(w)`; every `w` may be picked. -/
  | linkRx (w : Word)
  /-- The link's `L_AVCLR`. -/
  | linkAvClr
  /-- Caller `c` presents the command word `w`. -/
  | present (c : Nat) (w : CmdWord)
  /-- A raw bus master makes an access no command word can express (30_encoding.md R78). -/
  | wrongDirection (acc : WrongAccess)
  deriving DecidableEq, Repr, Inhabited

/-- FREE VALUE: the byte whose bits stand for the unspecified bits of the `n`-th drawn CSR read
(40_port_access.md R112). Nothing constrains it. notes/assumptions/5.md -/
opaque Config.freeCsr : Nat → Byte

/-- FREE VALUE: the move the scheduler picks when none is chosen in the state (70_reset_and_hazards.md R230). Nothing
constrains it. notes/assumptions/3.md -/
opaque Config.schedule : Nat → Turn

end Sys2Proof
end

