-- ==== Sys2Proof/Machine/State.lean ====
section
/-! DEFINITION. The state of the block, the reasons a run stops, and the state after reset (10_state.md, 60_exceptions.md
R200, R201). INVENTORY.md '## State' lists every field with its rule. -/

namespace Sys2Proof.Machine

/-- The reasons of a model fault (60_exceptions.md R200). A step that raises one answers a next state whose fault set
holds it (`State.raise`); every later step of that state stops with it, because a faulted state is quiescent. -/
inductive Fault where
  /-- `TriggerWhileBusy`: raised by a trigger, a write to WDL while WR_BUSY = 1 (40_port_access.md R104). Safe: the spec
  gives no effect of the violation on the chip. -/
  | triggerWhileBusy
  /-- `Reentry`: raised by starting an operation other than a transform while `phase != IDLE` (60_exceptions.md R205).
  Safe: the spec gives no effect of the overlap. -/
  | reentry
  deriving DecidableEq, Repr

/-- Why a step has no meaning. The spec's own refusals (60_exceptions.md R201) are not among these: a refused command sets
the mark `State.refused` and the machine goes on. -/
inductive Refusal where
  /-- The operation has no meaning in the model yet: raised by no arm of `exec` now. Safe: nothing is proved of it. -/
  | notModelled (mnemonic : String)
  deriving DecidableEq, Repr

/-- The set `fault` of reasons (10_state.md R38, 60_exceptions.md R200), one field a reason. -/
structure FaultSet where
  triggerWhileBusy : Bool
  reentry : Bool
  deriving DecidableEq, Repr

/-- No reason. -/
def FaultSet.empty : FaultSet := ⟨false, false⟩

/-- The transactions, the operations that take more than one FSM cycle (00_scope.md R14). -/
inductive Txn where
  | regRead
  | regWrite
  | sampleRead
  | sampleWrite
  deriving DecidableEq, Repr

/-- The control state of the FSM: IDLE, or `(op, k)` with `k` the index of the current micro-step, counted from 1
(10_state.md R26). The operations of one cycle end in the cycle that starts them and never rest here. -/
inductive Phase where
  | idle
  | run (op : Txn) (k : Nat)
  deriving DecidableEq, Repr

/-- A value an operation returns (30_encoding.md R72); an `i16` is held as its 16-bit pattern. -/
inductive Value where
  | none
  | u8 (b : Byte)
  | u16 (w : Word)
  | i16 (w : Word)
  deriving DecidableEq, Repr

/-- An operation's outcome as its caller sees it: the tag of 60_exceptions.md R203. -/
inductive Result where
  | ok (v : Value)
  | timeout
  deriving DecidableEq, Repr

/-- The state of the block and of the agents around it. -/
structure State where
  /-- The parameters (00_scope.md R8); no step changes them. -/
  cfg : Config
  /-- CSR bit 7, RESET_N (10_state.md R22). -/
  resetN : Bool
  /-- CSR bit 1, ENABLE (R23). -/
  enable : Bool
  /-- CSR bit 2, WR_BUSY (R24). -/
  wrBusy : Bool
  /-- CSR bit 3, DATA_AVAIL (R25). -/
  dataAvail : Bool
  /-- WriteDataHigh (R30). -/
  wdh : Byte
  /-- WriteDataLow (R31). -/
  wdl : Byte
  /-- ReadDataHigh (R32). -/
  rdh : Byte
  /-- ReadDataLow (R32). -/
  rdl : Byte
  /-- The FSM's control state (R26). -/
  phase : Phase
  /-- The settle counter (R27). -/
  sc : Nat
  /-- The poll counter (R28). -/
  pcnt : Nat
  /-- The latched register address (R29). -/
  a : RegAddr
  /-- The latched data operand (R29). -/
  d : Word
  /-- The low byte read by a read operation (R29). -/
  lo : Byte
  /-- The high byte read by a read operation (R29). -/
  hi : Byte
  /-- The word latched by the last trigger (R33). -/
  txbuf : Word
  /-- The words sent, oldest first (R33). -/
  txlog : List Word
  /-- The set of fault reasons (R38). -/
  faults : FaultSet
  /-- The sticky refusal mark (R38). -/
  refused : Bool
  /-- The caller whose command is being presented. The model's field, notes/assumptions/8.md. -/
  issuer : Nat
  /-- The caller that started the transaction in progress. The model's field, notes/assumptions/8.md. -/
  owner : Nat
  /-- The results delivered, oldest first, each with its caller. The model's field, notes/assumptions/8.md. -/
  results : List (Nat × Result)
  /-- The moves already chosen for the next steps. The model's field, notes/assumptions/3.md. -/
  agenda : List Turn
  /-- The number of free values drawn. The model's field, notes/assumptions/5.md. -/
  draws : Nat
  deriving DecidableEq, Repr

/-- The state after block reset (10_state.md R37, 70_reset_and_hazards.md R220). `phase`, `sc`, `pcnt`, `txlog`, `faults`
and `refused` are the spec's; the CSR bits, the ports, `a`, `d`, `lo`, `hi` and `txbuf` are unspecified there and 0 here
(DESIGN CHOICE, notes/assumptions/2.md); the parameters are the spec's reference values (DESIGN CHOICE,
notes/assumptions/1.md); the rest are the model's own fields. -/
def State.reset : State where
  cfg := Config.reference
  resetN := false
  enable := false
  wrBusy := false
  dataAvail := false
  wdh := 0
  wdl := 0
  rdh := 0
  rdl := 0
  phase := .idle
  sc := 0
  pcnt := 0
  a := 0
  d := 0
  lo := 0
  hi := 0
  txbuf := 0
  txlog := []
  faults := FaultSet.empty
  refused := false
  issuer := 0
  owner := 0
  results := []
  agenda := []
  draws := 0

end Sys2Proof.Machine
end

