-- ==== Sys2Proof/Machine/Ops.lean ====
section
/-! DEFINITION. The named operations over the state that every meaning is built from: the settle counter, the ports, the
marks, the results, and the phase of the FSM. No operation reads WDH or WDL for a caller or writes RDH or RDL. -/

namespace Sys2Proof.Machine

/-- Every port access sets `sc <- N_SETTLE` (10_state.md R27). -/
def State.openWindow (s : State) : State := { s with sc := s.cfg.nSettle }

/-- A no-operation cycle: `sc <- max(sc - 1, 0)` (10_state.md R27; subtraction of natural numbers stops at 0). -/
def State.settle (s : State) : State := { s with sc := s.sc - 1 }

/-- A write to CSR changes only RESET_N and ENABLE (40_port_access.md R110, R101). -/
def State.putControl (b : Byte) (s : State) : State :=
  { s with resetN := b.getLsbD 7, enable := b.getLsbD 1 }

/-- A write to WDH only latches the byte (10_state.md R30). -/
def State.putWdh (b : Byte) (s : State) : State := { s with wdh := b }

/-- The trigger: `WDL <- b; txbuf <- {WDH, b}; WR_BUSY <- 1` (10_state.md R31). -/
def State.trigger (b : Byte) (s : State) : State :=
  { s with wdl := b, txbuf := s.wdh ++ b, wrBusy := true }

/-- The ports a host may write (10_state.md R20). -/
inductive OutPort where
  | csr
  | wdh
  | wdl
  deriving DecidableEq, Repr

/-- The data ports a host may read (10_state.md R20). -/
inductive InPort where
  | rdh
  | rdl
  deriving DecidableEq, Repr

/-- Micro-step `WR(p, b)` (40_port_access.md R110). A trigger while WR_BUSY = 1 raises TriggerWhileBusy and has none of
its own effect (R104). -/
def portWrite (p : OutPort) (b : Byte) (s : State) : Except Fault State :=
  match p with
  | .csr => .ok (s.putControl b).openWindow
  | .wdh => .ok (s.putWdh b).openWindow
  | .wdl => if s.wrBusy then .error .triggerWhileBusy else .ok (s.trigger b).openWindow

/-- The byte a read of a data port returns: its current content (10_state.md R32). -/
def portValue (p : InPort) (s : State) : Byte :=
  match p with
  | .rdh => s.rdh
  | .rdl => s.rdl

/-- A fault adds its reason to the set (60_exceptions.md R200). -/
def FaultSet.insert (f : Fault) (fs : FaultSet) : FaultSet :=
  match f with
  | .triggerWhileBusy => { fs with triggerWhileBusy := true }
  | .reentry => { fs with reentry := true }

/-- `raise Fault(f)`: the reason is added and nothing else changes (60_exceptions.md R200). -/
def State.raise (f : Fault) (s : State) : State := { s with faults := s.faults.insert f }

/-- The reason a quiescent state is quiescent for; `none` while no fault was raised (60_exceptions.md R200). -/
def FaultSet.stopsFor (fs : FaultSet) : Option Fault :=
  if fs.triggerWhileBusy then some .triggerWhileBusy else if fs.reentry then some .reentry else none

/-- `refuse(reason)`: the sticky mark is set and nothing else changes (60_exceptions.md R201). The mark records no
reason (10_state.md R38). -/
def State.refuse (s : State) : State := { s with refused := true }

/-- `result <- r` for caller `c` (00_scope.md R11, 41_register_channel.md R123). -/
def State.deliver (c : Nat) (r : Result) (s : State) : State := { s with results := s.results ++ [(c, r)] }

/-- One free value has been drawn. -/
def State.drawn (s : State) : State := { s with draws := s.draws + 1 }

/-- The FSM latches a transaction at its start: `a`, `d`, `pcnt <- 0`, `phase <- (op, 1)` (41_register_channel.md R122).
The caller that issued it owns its result. -/
def State.latch (op : Txn) (a : RegAddr) (d : Word) (s : State) : State :=
  { s with a := a, d := d, pcnt := 0, phase := .run op 1, owner := s.issuer }

/-- `phase <- p`. -/
def State.goto (p : Phase) (s : State) : State := { s with phase := p }

/-- `pcnt <- n` (10_state.md R28). -/
def State.setPcnt (n : Nat) (s : State) : State := { s with pcnt := n }

/-- Micro-step `RD(p)` into the FSM's scratch register: `hi` from RDH, `lo` from RDL (40_port_access.md R111,
10_state.md R29). -/
def State.capture (p : InPort) (s : State) : State :=
  match p with
  | .rdh => { s with hi := portValue .rdh s }
  | .rdl => { s with lo := portValue .rdl s }

/-- An operation of the FSM starts only from IDLE; from any other phase it is the Reentry fault
(60_exceptions.md R205, 41_register_channel.md R122). -/
def whenIdle (s : State) (f : State → State) : Host.Outcome State Fault Refusal :=
  match s.phase with
  | .idle => .next (f s)
  | .run _ _ => .next (s.raise .reentry)

/-- A one-cycle operation that writes a port: it starts from IDLE, makes the access and ends in IDLE
(40_port_access.md R101 to R104). -/
def execWrite (p : OutPort) (b : Byte) (s : State) : Host.Outcome State Fault Refusal :=
  whenIdle s fun s =>
    match portWrite p b s with
    | .ok s' => s'.goto .idle
    | .error f => s.raise f

/-- A one-cycle operation that reads a data port and returns the byte (40_port_access.md R105, R106, R111). -/
def execRead (p : InPort) (s : State) : Host.Outcome State Fault Refusal :=
  whenIdle s fun s => ((s.openWindow).goto .idle).deliver s.issuer (.ok (.u8 (portValue p s)))

/-- A transform: one step of the issuing caller that writes only its result (43_mulaw.md R166). -/
def execTransform (v : Value) (s : State) : Host.Outcome State Fault Refusal :=
  .next (s.deliver s.issuer (.ok v))

end Sys2Proof.Machine
end

