-- ==== Sys2Proof/Machine/Segments.lean ====
section
/-! DEFINITION. The two segment tables and the search both encoders use (10_state.md R35, 43_mulaw.md R160,
44_alaw.md R180). -/

namespace Sys2Proof.Machine

/-- `LIM_U`: exclusive upper limits of the mu-law segments (10_state.md R35; notes/assumptions/10.md). -/
def limU : List Nat := [0x40, 0x80, 0x100, 0x200, 0x400, 0x800, 0x1000, 0x2000]

/-- `LIM_A`: exclusive upper limits of the A-law segments (10_state.md R35; notes/assumptions/10.md). -/
def limA : List Nat := [0x20, 0x40, 0x80, 0x100, 0x200, 0x400, 0x800, 0x1000]

/-- The smallest `i` with `m < lim[i]`, or the table's length if there is none. -/
def segment (lim : List Nat) (m : Nat) : Nat :=
  match lim with
  | [] => 0
  | l :: rest => if m < l then 0 else segment rest m + 1

end Sys2Proof.Machine
end

