-- ==== Sys2Proof/Machine/Alaw.lean ====
section
/-! DEFINITION. The A-law encoder and decoder (44_alaw.md), on mathematical integers, narrowed at the result. -/

namespace Sys2Proof.Machine

/-- `v <- tdiv(pcm, 8)`, truncated toward zero (R182, 90_conflicts.md C4). -/
def alawScaled (pcm : Int) : Int := pcm.tdiv 8

/-- The magnitude: `v`, or `-v - 1` where the scaled value is negative (R182). -/
def alawMagnitude (pcm : Int) : Nat :=
  let v := alawScaled pcm
  if 0 ≤ v then v.toNat else (-v - 1).toNat

/-- The sign mask, by the sign of the scaled value (R181, R182). -/
def alawMask (pcm : Int) : Byte := if 0 ≤ alawScaled pcm then 0xD5 else 0x55

/-- The code of a magnitude before the mask: saturation where no segment is found (R183), else segment and mantissa
(R182). -/
def alawCode (v : Nat) : Byte :=
  let s := segment limA v
  if s = 8 then 0x7F
  else if s < 2 then BitVec.ofNat 8 (s <<< 4 ||| (v >>> 1 &&& 0x0F))
  else BitVec.ofNat 8 (s <<< 4 ||| (v >>> s &&& 0x0F))

/-- ENC_ALAW(pcm) (R182). -/
def encodeAlaw (pcm : Word) : Byte := alawCode (alawMagnitude pcm.toInt) ^^^ alawMask pcm.toInt

/-- The magnitude of DEC_ALAW for the code after XOR 0x55; the base term is kept in segments 1 to 7
(R184, 90_conflicts.md C3, notes/assumptions/11.md). -/
def alawExpand (x : Byte) : Nat :=
  let t := (x &&& 0x0F).toNat <<< 4
  let s := ((x &&& 0x70) >>> 4).toNat
  if s = 0 then t + 8 else if s = 1 then t + 0x108 else (t + 0x108) <<< (s - 1)

/-- DEC_ALAW(code) (R184). -/
def decodeAlaw (code : Byte) : Word :=
  let x := code ^^^ 0x55
  if x &&& 0x80 ≠ 0 then BitVec.ofInt 16 (alawExpand x) else BitVec.ofInt 16 (-(alawExpand x : Int))

/-- The meaning of ENC_ALAW (R182, 43_mulaw.md R166). -/
def execEncAlaw (pcm : Word) (s : State) : Host.Outcome State Fault Refusal :=
  execTransform (.u8 (encodeAlaw pcm)) s

/-- The meaning of DEC_ALAW (R184, 43_mulaw.md R166). -/
def execDecAlaw (code : Byte) (s : State) : Host.Outcome State Fault Refusal :=
  execTransform (.i16 (decodeAlaw code)) s

end Sys2Proof.Machine
end

