-- ==== Sys2Proof/Machine/Mulaw.lean ====
section
/-! DEFINITION. The mu-law encoder and decoder (43_mulaw.md), on mathematical integers, narrowed at the result. -/

namespace Sys2Proof.Machine

/-- `v`, the magnitude after the shift, the clip at 8159 and the bias 33, in 33..8192 (R161, R162). The shift is
`floor(pcm / 4)`. -/
def ulawMagnitude (pcm : Int) : Nat := min (pcm / 4).natAbs 8159 + 33

/-- The sign mask: 0x7F where `floor(pcm / 4)` is negative, else 0xFF (R161, R162). -/
def ulawMask (pcm : Int) : Byte := if pcm / 4 < 0 then 0x7F else 0xFF

/-- The code of a biased magnitude before the mask: saturation where no segment is found (R163), else segment and
mantissa (R162). -/
def ulawCode (v : Nat) : Byte :=
  let s := segment limU v
  if s = 8 then 0x7F else BitVec.ofNat 8 (s <<< 4 ||| (v >>> (s + 1) &&& 0x0F))

/-- ENC_ULAW(pcm) (R162). -/
def encodeUlaw (pcm : Word) : Byte := ulawCode (ulawMagnitude pcm.toInt) ^^^ ulawMask pcm.toInt

/-- `t` of DEC_ULAW for the complemented code: `(mantissa * 8 + 0x84) << segment` (R164). -/
def ulawExpand (u : Byte) : Nat := ((u &&& 0x0F).toNat <<< 3 + 0x84) <<< ((u &&& 0x70) >>> 4).toNat

/-- DEC_ULAW(code) (R164). -/
def decodeUlaw (code : Byte) : Word :=
  let u := ~~~code
  if u &&& 0x80 ≠ 0 then BitVec.ofInt 16 (0x84 - ulawExpand u) else BitVec.ofInt 16 (ulawExpand u - 0x84)

/-- The meaning of ENC_ULAW (R162, R166). -/
def execEncUlaw (pcm : Word) (s : State) : Host.Outcome State Fault Refusal :=
  execTransform (.u8 (encodeUlaw pcm)) s

/-- The meaning of DEC_ULAW (R164, R166). -/
def execDecUlaw (code : Byte) (s : State) : Host.Outcome State Fault Refusal :=
  execTransform (.i16 (decodeUlaw code)) s

end Sys2Proof.Machine
end

