-- ==== Sys2Proof/Machine/Flags.lean ====
section
/-! DEFINITION. The control/status register as a read sees it (10_state.md R21, 40_port_access.md R112). -/

namespace Sys2Proof.Machine

/-- The status bits a poll may wait for (41_register_channel.md R120). -/
inductive StatusBit where
  | wrBusy
  | dataAvail
  deriving DecidableEq, Repr

/-- The bit's position in the CSR (10_state.md R21). -/
def StatusBit.index : StatusBit → Nat
  | .wrBusy => 2
  | .dataAvail => 3

/-- Bit `i` of the free byte of the next CSR read. -/
def State.freeBit (i : Nat) (s : State) : Bool := (Config.freeCsr s.draws).getLsbD i

/-- Bit `i` of `csr_value()` (40_port_access.md R112): RESET_N and ENABLE; WR_BUSY and DATA_AVAIL where the settle window
is closed, free values inside it; the out-of-scope bits 0, 4, 5 and 6 are free values. -/
def State.csrBit (i : Nat) (s : State) : Bool :=
  match i with
  | 7 => s.resetN
  | 1 => s.enable
  | 2 => if s.sc = 0 then s.wrBusy else s.freeBit 2
  | 3 => if s.sc = 0 then s.dataAvail else s.freeBit 3
  | i => s.freeBit i

/-- `csr_value()` (40_port_access.md R112). -/
def State.csrValue (s : State) : Byte :=
  BitVec.ofBoolListLE [s.csrBit 0, s.csrBit 1, s.csrBit 2, s.csrBit 3, s.csrBit 4, s.csrBit 5, s.csrBit 6, s.csrBit 7]

/-- A CSR read is a port access, and its free bits are drawn afresh (40_port_access.md R100, R112). -/
def State.csrAccess (s : State) : State := s.drawn.openWindow

end Sys2Proof.Machine
end

