-- ==== Sys2Proof/Machine/PortAccess.lean ====
section
/-! DEFINITION. NOP and the six port primitives (40_port_access.md R100 to R107). -/

namespace Sys2Proof.Machine

/-- NOP: one no-operation cycle (R107). -/
def execNop (s : State) : Host.Outcome State Fault Refusal :=
  whenIdle s fun s => s.settle.goto .idle

/-- CSR_RD: the result is `csr_value()`, and the read opens the settle window (R100). -/
def execCsrRd (s : State) : Host.Outcome State Fault Refusal :=
  whenIdle s fun s => (s.csrAccess.goto .idle).deliver s.issuer (.ok (.u8 s.csrValue))

/-- CSR_WR: a byte with a bit other than 7 and 1 set is refused before anything else (R101, 60_exceptions.md R208); else
RESET_N and ENABLE are written. -/
def execCsrWr (b : Byte) (s : State) : Host.Outcome State Fault Refusal :=
  if CsrByteOk b then execWrite .csr b s else .next s.refuse

/-- WDH_WR (R102). -/
def execWdhWr (b : Byte) (s : State) : Host.Outcome State Fault Refusal := execWrite .wdh b s

/-- WDL_WR, a trigger (R103, R104). -/
def execWdlWr (b : Byte) (s : State) : Host.Outcome State Fault Refusal := execWrite .wdl b s

/-- RDH_RD (R105). -/
def execRdhRd (s : State) : Host.Outcome State Fault Refusal := execRead .rdh s

/-- RDL_RD (R106). -/
def execRdlRd (s : State) : Host.Outcome State Fault Refusal := execRead .rdl s

end Sys2Proof.Machine
end

