-- ==== Sys2Proof/Machine/Operands.lean ====
section
/-! DEFINITION. The bytes and words an operation forms from its operands (30_encoding.md R73 to R75, 20_memory.md R52). -/

namespace Sys2Proof.Machine

/-- `CMD_READ` as a byte; zero where the parameter is zero (30_encoding.md R73). -/
def cmdReadMask (c : Config) : Byte :=
  match c.cmdRead with
  | none => 0
  | some b => b.mask

/-- `cmd_write(a) = CMD_STROBE | zext_8(a[4:0])` (30_encoding.md R73). -/
def cmdWrite (c : Config) (a : RegAddr) : Byte := c.cmdStrobe.mask ||| a.setWidth 8

/-- `cmd_read(a) = CMD_STROBE | CMD_READ | zext_8(a[4:0])` (30_encoding.md R73). -/
def cmdRead (c : Config) (a : RegAddr) : Byte := c.cmdStrobe.mask ||| cmdReadMask c ||| a.setWidth 8

/-- `d[15:8]`. -/
def highByte (d : Word) : Byte := d.extractLsb' 8 8

/-- `d[7:0]`: the trigger byte of REG_WRITE (30_encoding.md R74). -/
def lowByte (d : Word) : Byte := d.extractLsb' 0 8

/-- `d[7:0] & 0xFE`: the low byte SAMPLE_WRITE sends (30_encoding.md R75). -/
def sampleLow (d : Word) : Byte := lowByte d &&& 0xFE

/-- `{hi, lo}` (00_scope.md R9, 20_memory.md R52). -/
def compose (hi lo : Byte) : Word := hi ++ lo

end Sys2Proof.Machine
end

