-- ==== Sys2Proof/Machine/Fsm.lean ====
section
/-! DEFINITION. The transaction FSM: micro-steps, micro-programs, the poll, and the start and end of a transaction
(41_register_channel.md R120 to R128, 42_sample_pipe.md R140, R142). -/

namespace Sys2Proof.Machine

/-- A micro-step of a transaction (40_port_access.md R110, R111, 41_register_channel.md R120). -/
inductive Micro where
  | wr (p : OutPort) (b : Byte)
  | rd (p : InPort)
  | poll (f : StatusBit) (want : Bool)
  deriving DecidableEq, Repr

/-- What a micro-step does to the operation in progress (10_state.md R26): go on, wait, end in TIMEOUT, or fault. -/
inductive MicroResult where
  | done (s : State)
  | wait (s : State)
  | timeout (s : State)
  | fault (f : Fault)
  deriving DecidableEq, Repr

/-- The micro-program of REG_WRITE a, d (41_register_channel.md R124). -/
def regWriteProgram (c : Config) (a : RegAddr) (d : Word) : List Micro :=
  [.wr .wdh (cmdWrite c a), .poll .wrBusy false, .wr .wdl (lowByte d), .poll .wrBusy false, .poll .wrBusy false,
   .wr .wdh 0, .wr .wdl 0]

/-- The micro-program of REG_READ a (41_register_channel.md R126). -/
def regReadProgram (c : Config) (a : RegAddr) : List Micro :=
  [.wr .wdh (cmdRead c a), .poll .wrBusy false, .wr .wdl 0, .poll .wrBusy false, .poll .dataAvail true, .wr .wdh 0,
   .wr .wdl 0, .rd .rdl, .rd .rdh]

/-- The micro-program of SAMPLE_WRITE d (42_sample_pipe.md R140). -/
def sampleWriteProgram (d : Word) : List Micro :=
  [.poll .wrBusy false, .wr .wdh (highByte d), .wr .wdl (sampleLow d)]

/-- The micro-program of SAMPLE_READ (42_sample_pipe.md R142). -/
def sampleReadProgram : List Micro := [.poll .dataAvail true, .rd .rdh, .rd .rdl]

/-- The micro-program of a transaction, over the parameters and the operands. -/
def Txn.program (op : Txn) (c : Config) (a : RegAddr) (d : Word) : List Micro :=
  match op with
  | .regRead => regReadProgram c a
  | .regWrite => regWriteProgram c a d
  | .sampleRead => sampleReadProgram
  | .sampleWrite => sampleWriteProgram d

/-- The number of micro-steps of a transaction; 9 at most (10_state.md R26). -/
def Txn.length : Txn → Nat
  | .regRead => 9
  | .regWrite => 7
  | .sampleRead => 3
  | .sampleWrite => 3

/-- The micro-step at index `k`, counted from 1. -/
def microAt (p : List Micro) (k : Nat) : Option Micro :=
  match k with
  | 0 => none
  | k + 1 => p[k]?

/-- Micro-step `k` of `op`, over the operands the FSM latched. -/
def State.microOf (op : Txn) (k : Nat) (s : State) : Option Micro := microAt (op.program s.cfg s.a s.d) k

/-- The micro-step the FSM is at; `none` in IDLE. -/
def State.micro (s : State) : Option Micro :=
  match s.phase with
  | .idle => none
  | .run op k => s.microOf op k

/-- The value a transaction ends with: the two bytes read, high byte above low (41_register_channel.md R126, R127,
42_sample_pipe.md R142), or none (R124, R140). -/
def Txn.value (op : Txn) (s : State) : Value :=
  match op with
  | .regRead | .sampleRead => .u16 (compose s.hi s.lo)
  | .regWrite | .sampleWrite => .none

/-- `POLL_LIMIT != UNBOUNDED and pcnt >= POLL_LIMIT` (41_register_channel.md R120). -/
def limitReached (c : Config) (pcnt : Nat) : Bool :=
  match c.pollLimit with
  | none => false
  | some n => decide (n ≤ pcnt)

/-- One attempt of `POLL(f, want)` (41_register_channel.md R120): a settle cycle while the window is open, else a CSR read
that satisfies the poll, or counts a failed read and may end in TIMEOUT. -/
def poll (f : StatusBit) (want : Bool) (s : State) : MicroResult :=
  if 0 < s.sc then .wait s.settle
  else if s.csrBit f.index = want then .done (s.csrAccess.setPcnt 0)
  else if limitReached s.cfg (s.pcnt + 1) then .timeout (s.csrAccess.setPcnt (s.pcnt + 1))
  else .wait (s.csrAccess.setPcnt (s.pcnt + 1))

/-- One micro-step, which is one FSM cycle (20_memory.md R57). -/
def microStep (m : Micro) (s : State) : MicroResult :=
  match m with
  | .wr p b =>
    match portWrite p b s with
    | .ok s' => .done s'
    | .error f => .fault f
  | .rd p => .done (s.capture p).openWindow
  | .poll f want => poll f want s

/-- Micro-step `k` of `op` is done: the next one, or after the last the end, which sets IDLE and delivers the result to
the owner (41_register_channel.md R123). -/
def advance (op : Txn) (k : Nat) (s : State) : State :=
  if k < op.length then s.goto (.run op (k + 1))
  else (s.goto .idle).deliver s.owner (.ok (op.value s))

/-- A poll reached its limit: TIMEOUT to the owner, straight to IDLE, no further access (41_register_channel.md R121). -/
def timeOut (s : State) : State := (s.goto .idle).deliver s.owner .timeout

/-- One cycle of the FSM at micro-step `k` of `op`. An index outside the program, which no run reaches, has no micro-step
to take and nothing happens (notes/assumptions/13.md). -/
def runCycle (op : Txn) (k : Nat) (s : State) : State :=
  match s.microOf op k with
  | none => s
  | some m =>
    match microStep m s with
    | .done s' => advance op k s'
    | .wait s' => s'
    | .timeout s' => timeOut s'
    | .fault f => s.raise f

/-- One cycle of the FSM: a micro-step of the transaction in progress, or in IDLE an idle tick
(00_scope.md R12, 40_port_access.md R108). -/
def fsmCycle (s : State) : State :=
  match s.phase with
  | .idle => s.settle
  | .run op k => runCycle op k s

/-- Starting a transaction: the FSM latches the operands and in the same cycle performs micro-step 1
(41_register_channel.md R122). -/
def start (op : Txn) (a : RegAddr) (d : Word) (s : State) : State := fsmCycle (s.latch op a d)

end Sys2Proof.Machine
end

