-- ==== Sys2Proof/Machine/RegisterChannel.lean ====
section
/-! DEFINITION. The register transactions (41_register_channel.md R124, R126): their first cycle. The FSM's later cycles
are `fsmCycle`. -/

namespace Sys2Proof.Machine

/-- REG_READ a (R126, started as R122 says; its `D` field is 0). -/
def execRegRead (a : RegAddr) (s : State) : Host.Outcome State Fault Refusal :=
  whenIdle s fun s => start .regRead a 0 s

/-- REG_WRITE a, d (R124, started as R122 says). -/
def execRegWrite (a : RegAddr) (d : Word) (s : State) : Host.Outcome State Fault Refusal :=
  whenIdle s fun s => start .regWrite a d s

end Sys2Proof.Machine
end

