-- ==== Sys2Proof/Machine/SamplePipe.lean ====
section
/-! DEFINITION. The sample transactions (42_sample_pipe.md R140, R142): their first cycle. The FSM's later cycles are
`fsmCycle`. -/

namespace Sys2Proof.Machine

/-- SAMPLE_READ (R142; its `A` and `D` fields are 0 and are latched as 41_register_channel.md R122 says). -/
def execSampleRead (s : State) : Host.Outcome State Fault Refusal :=
  whenIdle s fun s => start .sampleRead 0 0 s

/-- SAMPLE_WRITE d (R140; its `A` field is 0). -/
def execSampleWrite (d : Word) (s : State) : Host.Outcome State Fault Refusal :=
  whenIdle s fun s => start .sampleWrite 0 d s

end Sys2Proof.Machine
end

