-- ==== Sys2Proof/Machine/Dispatch.lean ====
section
/-! DEFINITION. What an accepted command does, one arm per operation. -/

namespace Sys2Proof.Machine

def exec (i : Instr) (s : State) : Host.Outcome State Fault Refusal :=
  match i with
  | .nop => Sys2Proof.Machine.execNop s
  | .regRead a => Sys2Proof.Machine.execRegRead a s
  | .regWrite a d => Sys2Proof.Machine.execRegWrite a d s
  | .sampleRead => Sys2Proof.Machine.execSampleRead s
  | .sampleWrite d => Sys2Proof.Machine.execSampleWrite d s
  | .encUlaw pcm => Sys2Proof.Machine.execEncUlaw pcm s
  | .decUlaw code => Sys2Proof.Machine.execDecUlaw code s
  | .encAlaw pcm => Sys2Proof.Machine.execEncAlaw pcm s
  | .decAlaw code => Sys2Proof.Machine.execDecAlaw code s
  | .csrRd => Sys2Proof.Machine.execCsrRd s
  | .csrWr b => Sys2Proof.Machine.execCsrWr b s
  | .wdhWr b => Sys2Proof.Machine.execWdhWr b s
  | .wdlWr b => Sys2Proof.Machine.execWdlWr b s
  | .rdhRd => Sys2Proof.Machine.execRdhRd s
  | .rdlRd => Sys2Proof.Machine.execRdlRd s

end Sys2Proof.Machine
end

