-- ==== Sys2Proof/Machine/Link.lean ====
section
/-! DEFINITION. The steps of the link (10_state.md R33, R34). -/

namespace Sys2Proof.Machine

/-- `L_TX`: the word in `txbuf` is sent and WR_BUSY clears. It is enabled when WR_BUSY = 1; otherwise it is no step of the
link and nothing happens (notes/assumptions/4.md). -/
def linkTx (s : State) : State :=
  if s.wrBusy then { s with txlog := s.txlog ++ [s.txbuf], wrBusy := false } else s

/-- `L_RX(w)`: RDH and RDL are loaded and DATA_AVAIL is set, over an unread word too. -/
def linkRx (w : Word) (s : State) : State :=
  { s with rdh := w.extractLsb' 8 8, rdl := w.extractLsb' 0 8, dataAvail := true }

/-- `L_AVCLR`: DATA_AVAIL is cleared. -/
def linkAvClr (s : State) : State := { s with dataAvail := false }

end Sys2Proof.Machine
end

