-- ==== Sys2Proof/Machine/Scheduler.lean ====
section
/-! DEFINITION. Which agent moves and what its move does (70_reset_and_hazards.md R230, 60_exceptions.md R206). -/

namespace Sys2Proof.Machine

/-- The move of the next step: the head of the agenda, else a free value. -/
def State.turn (s : State) : Turn :=
  match s.agenda with
  | t :: _ => t
  | [] => Config.schedule s.draws

/-- The state once the next move is taken off the agenda, or drawn. -/
def State.afterTurn (s : State) : State :=
  match s.agenda with
  | _ :: rest => { s with agenda := rest }
  | [] => s.drawn

/-- Caller `c` waits for the result of its own transaction (60_exceptions.md R206). -/
abbrev State.Waiting (c : Nat) (s : State) : Prop := s.phase ≠ .idle ∧ s.owner = c

/-- Caller `c` may present a command: it is one of the `N_CALLERS`, and it is not waiting (60_exceptions.md R206). -/
abbrev State.MayPresent (c : Nat) (s : State) : Prop := c < s.cfg.nCallers ∧ ¬ s.Waiting c

/-- The command is presented by caller `c`. -/
def State.issue (c : Nat) (s : State) : State := { s with issuer := c }

/-- Caller `c` presents the command word `w`: a reserved word is refused, whatever the phase (60_exceptions.md R208),
any other runs. A caller that may not present makes no step (notes/assumptions/4.md). -/
def presentCommand (c : Nat) (w : CmdWord) (s : State) : Host.Outcome State Fault Refusal :=
  if s.MayPresent c then
    match decode w with
    | .ok i => exec i (s.issue c)
    | .error _ => .next s.refuse
  else .next s

/-- What a move does. -/
def takeTurn (t : Turn) (s : State) : Host.Outcome State Fault Refusal :=
  match t with
  | .fsm => .next (fsmCycle s)
  | .linkTx => .next (linkTx s)
  | .linkRx w => .next (linkRx w s)
  | .linkAvClr => .next (linkAvClr s)
  | .present c w => presentCommand c w s
  | .wrongDirection _ => .next s.refuse

/-- One step of the machine. A state with a fault is quiescent: no agent takes a step (60_exceptions.md R200). -/
def scheduled (s : State) : Host.Outcome State Fault Refusal :=
  match s.faults.stopsFor with
  | some f => .fault f
  | none => takeTurn s.turn s.afterTurn

/-- The next move is caller 0's, presenting `w`. -/
def State.placeCommand (w : CmdWord) (s : State) : State := { s with agenda := .present 0 w :: s.agenda }

/-- The next move is caller 0's, presenting the word whose bits are `w`, numbered as spec/opcode_table.json numbers
them; a row longer than a command word places nothing. -/
def State.placeTableWord (nbits w : Nat) (s : State) : State :=
  match tableWord nbits w with
  | some cw => s.placeCommand cw
  | none => s

end Sys2Proof.Machine
end

