-- ==== Sys2Proof/Machine/Step.lean ====
section
/-! DEFINITION. One step of the machine, and how an instruction is given to it. -/

namespace Sys2Proof.Machine

/-- One step: one agent moves (70_reset_and_hazards.md R230). -/
def step (s : State) : Host.Outcome State Fault Refusal := scheduled s

/-- `s` with caller 0 about to present the word, so that the very next step runs it (notes/assumptions/3.md says how a
program comes to run). -/
def State.withFetchWord (s : State) (nbits w : Nat) : State := s.placeTableWord nbits w

end Sys2Proof.Machine
end

