-- ==== Sys2Proof/Safety.lean ====
section
/-! DEFINITION. The terms claims are stated in: launch premises (70_reset_and_hazards.md R223, 10_state.md R37), the
invariant of every reachable state, and runs with the premises a termination claim may take (60_exceptions.md R216,
70_reset_and_hazards.md R230). -/

namespace Sys2Proof.Machine

/-- No fault has been raised (60_exceptions.md R200). -/
abbrev State.NoFault (s : State) : Prop := s.faults = FaultSet.empty

/-- `CleanLaunch` (70_reset_and_hazards.md R223). That no other caller has a command in progress is `phase = IDLE`. -/
abbrev State.CleanLaunch (s : State) : Prop :=
  s.phase = .idle ∧ s.sc = 0 ∧ s.pcnt = 0 ∧ s.NoFault ∧ s.refused = false

/-- A state after block reset, every unspecified piece at any value (10_state.md R37): what the spec gives of
`State.reset`. -/
abbrev State.AfterReset (s : State) : Prop :=
  s.phase = .idle ∧ s.sc = 0 ∧ s.pcnt = 0 ∧ s.txlog = [] ∧ s.faults = FaultSet.empty ∧ s.refused = false

/-- The phase is IDLE or an index of the operation's micro-program (10_state.md R26). -/
def State.IndexOk (s : State) : Prop :=
  match s.phase with
  | .idle => True
  | .run op k => 1 ≤ k ∧ k ≤ op.length

/-- The poll counter stays below the limit while an operation is in progress, does not pass it in IDLE, and is 0 outside
a poll (10_state.md R28, 41_register_channel.md R120). -/
def State.CountOk (s : State) : Prop :=
  match s.phase with
  | .idle => ∀ n, s.cfg.pollLimit = some n → s.pcnt ≤ n
  | .run _ _ => (∀ n, s.cfg.pollLimit = some n → s.pcnt < n) ∧ ((∀ f want, s.micro ≠ some (.poll f want)) → s.pcnt = 0)

/-- Where the next access to WDL follows a poll that saw WR_BUSY = 0, WR_BUSY is still 0 (40_port_access.md R104). -/
def State.TriggerOk (s : State) : Prop :=
  match s.phase with
  | .idle => True
  | .run .regWrite k => k = 3 ∨ 5 ≤ k → s.wrBusy = false
  | .run .regRead k => k = 3 ∨ (5 ≤ k ∧ k ≤ 7) → s.wrBusy = false
  | .run .sampleWrite k => 2 ≤ k → s.wrBusy = false
  | .run .sampleRead _ => True

/-- WDH holds the byte the operation in progress wrote for its next trigger (41_register_channel.md R124, R126,
42_sample_pipe.md R140). -/
def State.LatchOk (s : State) : Prop :=
  match s.phase with
  | .idle => True
  | .run .regWrite k => (k = 2 ∨ k = 3 → s.wdh = cmdWrite s.cfg s.a) ∧ (k = 7 → s.wdh = 0)
  | .run .regRead k => (k = 2 ∨ k = 3 → s.wdh = cmdRead s.cfg s.a) ∧ (k = 7 → s.wdh = 0)
  | .run .sampleWrite k => k = 3 → s.wdh = highByte s.d
  | .run .sampleRead _ => True

/-- The word `w` is in flight, or is the last word sent. -/
def State.Sent (w : Word) (s : State) : Prop :=
  if s.wrBusy then s.txbuf = w else s.txlog.getLast? = some w

/-- From the trigger of a register transaction to its clearing trigger, the command's word is in flight or is the last
word sent (41_register_channel.md R125). -/
def State.SentOk (s : State) : Prop :=
  match s.phase with
  | .idle => True
  | .run .regWrite k => 4 ≤ k → s.Sent (compose (cmdWrite s.cfg s.a) (lowByte s.d))
  | .run .regRead k => 4 ≤ k ∧ k ≤ 7 → s.Sent (compose (cmdRead s.cfg s.a) 0)
  | .run .sampleWrite _ => True
  | .run .sampleRead _ => True

/-- A transaction in progress belongs to one of the callers (60_exceptions.md R206). -/
def State.OwnerOk (s : State) : Prop := s.phase ≠ .idle → s.owner < s.cfg.nCallers

/-- The invariant of the machine. -/
structure State.Inv (s : State) : Prop where
  cfgOk : s.cfg.Valid
  settleOk : s.sc ≤ s.cfg.nSettle
  indexOk : s.IndexOk
  countOk : s.CountOk
  triggerOk : s.TriggerOk
  latchOk : s.LatchOk
  sentOk : s.SentOk
  ownerOk : s.OwnerOk

/-- The state of a status bit. -/
def State.status (f : StatusBit) (s : State) : Bool :=
  match f with
  | .wrBusy => s.wrBusy
  | .dataAvail => s.dataAvail

/-- `n` moves of the FSM. -/
def fsmTurns (n : Nat) : List Turn := List.replicate n .fsm

/-- `n` steps of the machine, stopping where one stops. -/
def runFor : Nat → State → Host.Outcome State Fault Refusal
  | 0, s => .next s
  | n + 1, s =>
    match step s with
    | .next t => runFor n t
    | .fault f => .fault f
    | .refused r => .refused r

/-- The operation presented `n` times in a row, with nothing between. -/
def execTimes (i : Instr) : Nat → State → Host.Outcome State Fault Refusal
  | 0, s => .next s
  | n + 1, s =>
    match exec i s with
    | .next t => execTimes i n t
    | .fault f => .fault f
    | .refused r => .refused r

/-- The four transforms. -/
def IsTransform : Instr → Prop
  | .encUlaw _ | .decUlaw _ | .encAlaw _ | .decAlaw _ => True
  | .nop | .regRead _ | .regWrite _ _ | .sampleRead | .sampleWrite _ | .csrRd | .csrWr _ | .wdhWr _ | .wdlWr _
  | .rdhRd | .rdlRd => False

/-- An infinite run in which the agents move in the order `turns`: no state of it has a fault, and each move is taken as
a step takes it, with the scheduler's own fields at any value. Every infinite run of `step` is one, with the turns that
`State.turn` gives (`isRun_of_steps`). -/
def IsRun (turns : Nat → Turn) (r : Nat → State) : Prop :=
  ∀ n, (r n).NoFault ∧ ∃ ag dr, takeTurn (turns n) { r n with agenda := ag, draws := dr } = .next (r (n + 1))

/-- Weak fairness of the FSM while it is not IDLE (70_reset_and_hazards.md R230). -/
def FsmFair (turns : Nat → Turn) (r : Nat → State) : Prop :=
  ∀ n, (r n).phase ≠ .idle → ∃ m, n ≤ m ∧ turns m = .fsm

/-- The FSM is in a `POLL(DATA_AVAIL, 1)`. -/
def State.AwaitsData (s : State) : Prop := s.micro = some (.poll .dataAvail true)

/-- The next move is the poll's CSR read with `sc = 0`. -/
def State.ReadsPoll (t : Turn) (s : State) : Prop := s.AwaitsData ∧ t = .fsm ∧ s.sc = 0

/-- `LinkResponsive` (60_exceptions.md R216): (a) whenever WR_BUSY = 1 the link eventually takes `L_TX`; (b) whenever the
FSM is in a `POLL(DATA_AVAIL, 1)` the link eventually takes `L_RX`, and no `L_AVCLR` while the poll then goes on to its
next CSR read. -/
def LinkResponsive (turns : Nat → Turn) (r : Nat → State) : Prop :=
  (∀ n, (r n).wrBusy = true → ∃ m, n ≤ m ∧ (r m).wrBusy = true ∧ turns m = .linkTx) ∧
  (∀ n, (r n).AwaitsData → ∃ m, n ≤ m ∧ (∃ w, turns m = .linkRx w) ∧
    ∀ j, m < j → (∀ i, m < i → i ≤ j → (r i).AwaitsData) → (∀ i, m < i → i < j → ¬ (r i).ReadsPoll (turns i)) →
      turns j ≠ .linkAvClr)

end Sys2Proof.Machine
end

