-- ==== Sys2Proof/Certificates/Slice0/Obligations.lean ====
section
/-! DEFINITION. The statements for the provers, one `Prop` each; OBLIGATIONS.json lists them. -/

open Sys2Proof Sys2Proof.Machine

/-! ### The command word (30_encoding.md) -/

/-- Decoding the command word of a well-formed operation gives it back, every operand at every value. -/
def Obligations.DecodeOfEncode : Prop := ∀ i : Instr, i.WellFormed → decode (encode i) = .ok i

/-- An accepted word is well formed and is the encoding of what it decodes to, but for `A[7:5]` of the two register
operations, which is ignored (R71). -/
def Obligations.EncodeOfDecode : Prop :=
  ∀ (w : CmdWord) (i : Instr), decode w = .ok i →
    i.WellFormed ∧
    encode i = (match i with
      | .regRead _ | .regWrite _ _ => w &&& 0xFF1FFFFF
      | .nop | .sampleRead | .sampleWrite _ | .encUlaw _ | .decUlaw _ | .encAlaw _ | .decAlaw _ | .csrRd | .csrWr _
      | .wdhWr _ | .wdlWr _ | .rdhRd | .rdlRd => w)

/-- R77: the reserved words are exactly the listed ones, and presenting one sets the mark and changes nothing else, in
every phase. -/
def Obligations.ReservedWordsAreRefused : Prop :=
  (∀ w : CmdWord, (∃ e, decode w = .error e) ↔
    (w.extractLsb' 28 4 = 0xF ∨ w.extractLsb' 24 4 ≠ 0 ∨
     (w.extractLsb' 28 4 ≠ 0x1 ∧ w.extractLsb' 28 4 ≠ 0x2 ∧ w.extractLsb' 16 8 ≠ 0) ∨
     ((w.extractLsb' 28 4 = 0x0 ∨ w.extractLsb' 28 4 = 0x1 ∨ w.extractLsb' 28 4 = 0x3 ∨ w.extractLsb' 28 4 = 0x9 ∨
       w.extractLsb' 28 4 = 0xD ∨ w.extractLsb' 28 4 = 0xE) ∧ w.extractLsb' 0 16 ≠ 0) ∨
     ((w.extractLsb' 28 4 = 0x6 ∨ w.extractLsb' 28 4 = 0x8 ∨ w.extractLsb' 28 4 = 0xA ∨ w.extractLsb' 28 4 = 0xB ∨
       w.extractLsb' 28 4 = 0xC) ∧ w.extractLsb' 8 8 ≠ 0) ∨
     (w.extractLsb' 28 4 = 0xA ∧ (w.extractLsb' 2 5 ≠ 0 ∨ w.extractLsb' 0 1 ≠ 0)))) ∧
  (∀ (s : State) (c : Nat) (w : CmdWord) (e : Reserved), s.MayPresent c → decode w = .error e →
    takeTurn (.present c w) s = .next { s with refused := true })

/-- The decoder accepts exactly the words of the table's rows, each as the operation whose `OP` is the row's place. -/
def Obligations.DecodeAgreesWithOpcodeTable : Prop :=
  (∀ (w : CmdWord) (r : OpcodeRow), r ∈ opcodeTable → r.Matches w →
    ∃ i, decode w = .ok i ∧ opcodeTable[(opcode i).toNat]? = some r) ∧
  (∀ (w : CmdWord) (i : Instr), decode w = .ok i →
    ∃ r, opcodeTable[(opcode i).toNat]? = some r ∧ r.Matches w)

/-- Words of 95_test_vectors.md V3, one operation each. -/
def Obligations.SpecWordsDecode : Prop :=
  decode 0x200512A7 = .ok (.regWrite 5 0x12A7) ∧ decode 0x20A512A7 = .ok (.regWrite 5 0x12A7) ∧
  decode 0x10050000 = .ok (.regRead 5) ∧ decode 0x30000000 = .ok .sampleRead ∧
  decode 0x4000FFFF = .ok (.sampleWrite 0xFFFF) ∧ decode 0x5000FC18 = .ok (.encUlaw 0xFC18) ∧
  decode 0x800000FA = .ok (.decAlaw 0xFA) ∧ decode 0x00000000 = .ok .nop ∧ decode 0xA0000082 = .ok (.csrWr 0x82) ∧
  decode 0xC0000035 = .ok (.wdlWr 0x35)

/-- R79: each line of assembly stands for the word of its operation, the address masked to 5 bits and a value or sample to
its 16-bit pattern. -/
def Obligations.AssemblyLinesDecode : Prop :=
  decode Asm.nop.word = .ok .nop ∧
  (∀ addr, decode (Asm.regRead addr).word = .ok (.regRead (BitVec.ofNat 5 addr))) ∧
  (∀ addr v, decode (Asm.regWrite addr v).word = .ok (.regWrite (BitVec.ofNat 5 addr) (BitVec.ofNat 16 v))) ∧
  decode Asm.sampleRead.word = .ok .sampleRead ∧
  (∀ v, decode (Asm.sampleWrite v).word = .ok (.sampleWrite (BitVec.ofInt 16 v))) ∧
  (∀ p, decode (Asm.encodeMulaw p).word = .ok (.encUlaw (BitVec.ofInt 16 p))) ∧
  (∀ b, decode (Asm.decodeMulaw b).word = .ok (.decUlaw b)) ∧
  (∀ p, decode (Asm.encodeAlaw p).word = .ok (.encAlaw (BitVec.ofInt 16 p))) ∧
  (∀ b, decode (Asm.decodeAlaw b).word = .ok (.decAlaw b)) ∧
  decode Asm.csrRead.word = .ok .csrRd ∧
  (∀ b, CsrByteOk b → decode (Asm.csrWrite b).word = .ok (.csrWr b)) ∧
  (∀ b, decode (Asm.wdhWrite b).word = .ok (.wdhWr b)) ∧
  (∀ b, decode (Asm.wdlWrite b).word = .ok (.wdlWr b)) ∧
  decode Asm.rdhRead.word = .ok .rdhRd ∧ decode Asm.rdlRead.word = .ok .rdlRd

/-- R73: the command bytes are the strobe bit, the read bit where there is one, and the address in bits 4..0; they are the
same where `CMD_READ` is zero. -/
def Obligations.CommandBytes : Prop :=
  ∀ (c : Config) (a : RegAddr), c.Valid →
    (cmdWrite c a).toNat = c.cmdStrobe.mask.toNat + a.toNat ∧
    (cmdRead c a).toNat = c.cmdStrobe.mask.toNat + (match c.cmdRead with | none => 0 | some b => b.mask.toNat) + a.toNat ∧
    (c.cmdRead = none → cmdRead c a = cmdWrite c a)

/-! ### Steps -/

/-- A step takes the first move of the agenda, or the free move where none is chosen, and a move that presents an accepted
word runs the decoded operation with the caller noted as issuer. The agenda and the issuer are the model's own fields
(log entries 3 and 8). -/
def Obligations.StepRunsDecodedInstruction : Prop :=
  (∀ (s : State) (c : Nat) (w : CmdWord) (i : Instr) (rest : List Turn),
    s.NoFault → s.agenda = .present c w :: rest → s.MayPresent c → decode w = .ok i →
    step s = exec i { s with agenda := rest, issuer := c }) ∧
  (∀ (s : State) (c : Nat) (w : CmdWord) (i : Instr), s.MayPresent c → decode w = .ok i →
    takeTurn (.present c w) s = exec i { s with issuer := c }) ∧
  (∀ (s : State) (t : Turn) (rest : List Turn), s.NoFault → s.agenda = t :: rest →
    step s = takeTurn t { s with agenda := rest }) ∧
  (∀ s : State, s.NoFault → s.agenda = [] → step s = takeTurn (Config.schedule s.draws) { s with draws := s.draws + 1 })

/-- A placed table word is the very next instruction: from a state that is idle and has no fault, the step runs it. How a
word comes to run is the model's choice (log entry 3). -/
def Obligations.PlacedWordRunsNext : Prop :=
  ∀ (s : State) (nbits w : Nat) (i : Instr), s.NoFault → s.phase = .idle → 1 ≤ s.cfg.nCallers →
    decodeTableWord nbits w = some i → step (s.withFetchWord nbits w) = exec i { s with issuer := 0 }

/-- Every operation answers a next state from every state, and the machine stops in a faulted state and in no other, and
never for want of a meaning. The outcome of a stop is the model's choice (log entry 6). -/
def Obligations.OnlyFaultedStatesStop : Prop :=
  (∀ (i : Instr) (s : State), ∃ t, exec i s = .next t) ∧
  (∀ s : State, s.NoFault → ∃ t, step s = .next t) ∧
  (∀ s : State, s.faults.triggerWhileBusy = true → step s = .fault .triggerWhileBusy) ∧
  (∀ s : State, s.faults.triggerWhileBusy = false → s.faults.reentry = true → step s = .fault .reentry)

/-- R108: in IDLE the FSM's move is an idle tick. -/
def Obligations.IdleTickCountsDown : Prop :=
  ∀ s : State, s.phase = .idle → takeTurn .fsm s = .next { s with sc := s.sc - 1 }

/-- R34: the three steps of the link, in every state. -/
def Obligations.LinkStepsActOnThePorts : Prop :=
  ∀ s : State,
    (s.wrBusy = true → takeTurn .linkTx s = .next { s with txlog := s.txlog ++ [s.txbuf], wrBusy := false }) ∧
    (∀ w : Word, takeTurn (.linkRx w) s =
      .next { s with rdh := (w >>> 8).setWidth 8, rdl := w.setWidth 8, dataAvail := true }) ∧
    takeTurn .linkAvClr s = .next { s with dataAvail := false }

/-- A wrong-direction access of a raw bus master is refused and changes nothing but the mark. Which raw accesses there are
is the model's choice (log entry 12). -/
def Obligations.WrongDirectionIsRefused : Prop :=
  ∀ (s : State) (acc : WrongAccess), takeTurn (.wrongDirection acc) s = .next { s with refused := true }

/-! ### Port primitives (40_port_access.md) -/

/-- R110, R111: the two micro-steps, one case a port. -/
def Obligations.MicroStepsAccessOnePort : Prop :=
  ∀ (s : State) (b : Byte),
    microStep (.wr .csr b) s = .done { s with resetN := b.getLsbD 7, enable := b.getLsbD 1, sc := s.cfg.nSettle } ∧
    microStep (.wr .wdh b) s = .done { s with wdh := b, sc := s.cfg.nSettle } ∧
    (s.wrBusy = false → microStep (.wr .wdl b) s =
      .done { s with wdl := b, txbuf := s.wdh ++ b, wrBusy := true, sc := s.cfg.nSettle }) ∧
    (s.wrBusy = true → microStep (.wr .wdl b) s = .fault .triggerWhileBusy) ∧
    microStep (.rd .rdh) s = .done { s with hi := s.rdh, sc := s.cfg.nSettle } ∧
    microStep (.rd .rdl) s = .done { s with lo := s.rdl, sc := s.cfg.nSettle }

/-- R107: NOP is one settle cycle; at `sc = 0` it changes nothing; `N_SETTLE` of them close the window. -/
def Obligations.NopSettles : Prop :=
  (∀ (w : CmdWord), decode w = .ok .nop ↔ w.op = 0x0 ∧ w.rsv = 0 ∧ w.fieldA = 0 ∧ w.fieldD = 0) ∧
  (∀ s : State, s.phase = .idle → exec .nop s = .next { s with sc := s.sc - 1 }) ∧
  (∀ s : State, s.phase = .idle → s.sc = 0 → exec .nop s = .next s) ∧
  (∀ s : State, s.phase = .idle → s.sc ≤ s.cfg.nSettle → execTimes .nop s.cfg.nSettle s = .next { s with sc := 0 }) ∧
  (∀ s : State, s.phase ≠ .idle → exec .nop s = .next { s with faults := { s.faults with reentry := true } })

/-- CSR_RD returns `csr_value()` (40_port_access.md) bit by bit, opens the settle window, and changes nothing else. That
its unspecified bits are the bits of `Config.freeCsr` at the counter `draws`, which the read advances, is the model's
rendering of the spec's `draw()` (log entry 5, DESIGN CHOICE): equal counters give equal bits, which the spec does not
say. -/
def Obligations.CsrReadReturnsCsrValue : Prop :=
  (∀ (w : CmdWord), decode w = .ok .csrRd ↔ w.op = 0x9 ∧ w.rsv = 0 ∧ w.fieldA = 0 ∧ w.fieldD = 0) ∧
  (∀ s : State, s.phase = .idle → ∃ v : Byte,
    exec .csrRd s = .next { s with sc := s.cfg.nSettle, draws := s.draws + 1,
                                   results := s.results ++ [(s.issuer, .ok (.u8 v))] } ∧
    v.getLsbD 7 = s.resetN ∧ v.getLsbD 1 = s.enable ∧
    (s.sc = 0 → v.getLsbD 2 = s.wrBusy ∧ v.getLsbD 3 = s.dataAvail) ∧
    (s.sc ≠ 0 → v.getLsbD 2 = (Config.freeCsr s.draws).getLsbD 2 ∧ v.getLsbD 3 = (Config.freeCsr s.draws).getLsbD 3) ∧
    (∀ j, j = 0 ∨ j = 4 ∨ j = 5 ∨ j = 6 → v.getLsbD j = (Config.freeCsr s.draws).getLsbD j)) ∧
  (∀ s : State, s.phase ≠ .idle → exec .csrRd s = .next { s with faults := { s.faults with reentry := true } })

/-- R101: CSR_WR writes RESET_N and ENABLE and opens the settle window; a byte with another bit set is refused. -/
def Obligations.CsrWriteSetsControlBits : Prop :=
  (∀ (w : CmdWord) (b : Byte), decode w = .ok (.csrWr b) ↔
    w.op = 0xA ∧ w.rsv = 0 ∧ w.fieldA = 0 ∧ w.highD = 0 ∧ w.operandB = b ∧ b &&& 0x7D = 0) ∧
  (∀ (s : State) (b : Byte), b &&& 0x7D = 0 → s.phase = .idle →
    exec (.csrWr b) s = .next { s with resetN := b.getLsbD 7, enable := b.getLsbD 1, sc := s.cfg.nSettle }) ∧
  (∀ (s : State) (b : Byte), b &&& 0x7D ≠ 0 → exec (.csrWr b) s = .next { s with refused := true }) ∧
  (∀ (s : State) (b : Byte), b &&& 0x7D = 0 → s.phase ≠ .idle →
    exec (.csrWr b) s = .next { s with faults := { s.faults with reentry := true } })

/-- R102: WDH_WR latches the byte, busy or not, and opens the settle window. -/
def Obligations.WdhWriteLatches : Prop :=
  (∀ (w : CmdWord) (b : Byte), decode w = .ok (.wdhWr b) ↔
    w.op = 0xB ∧ w.rsv = 0 ∧ w.fieldA = 0 ∧ w.highD = 0 ∧ w.operandB = b) ∧
  (∀ (s : State) (b : Byte), s.phase = .idle → exec (.wdhWr b) s = .next { s with wdh := b, sc := s.cfg.nSettle }) ∧
  (∀ (s : State) (b : Byte), s.phase ≠ .idle →
    exec (.wdhWr b) s = .next { s with faults := { s.faults with reentry := true } })

/-- R103: WDL_WR is a trigger, for every byte. -/
def Obligations.WdlWriteTriggers : Prop :=
  (∀ (w : CmdWord) (b : Byte), decode w = .ok (.wdlWr b) ↔
    w.op = 0xC ∧ w.rsv = 0 ∧ w.fieldA = 0 ∧ w.highD = 0 ∧ w.operandB = b) ∧
  (∀ (s : State) (b : Byte), s.phase = .idle → s.wrBusy = false →
    exec (.wdlWr b) s = .next { s with wdl := b, txbuf := s.wdh ++ b, wrBusy := true, sc := s.cfg.nSettle }) ∧
  (∀ (s : State) (b : Byte), s.phase = .idle → s.wrBusy = true →
    exec (.wdlWr b) s = .next { s with faults := { s.faults with triggerWhileBusy := true } }) ∧
  (∀ (s : State) (b : Byte), s.phase ≠ .idle →
    exec (.wdlWr b) s = .next { s with faults := { s.faults with reentry := true } })

/-- R105, R106: RDH_RD and RDL_RD return the port's content, open the settle window and clear nothing. -/
def Obligations.DataPortReadsReturnContent : Prop :=
  (∀ (w : CmdWord), decode w = .ok .rdhRd ↔ w.op = 0xD ∧ w.rsv = 0 ∧ w.fieldA = 0 ∧ w.fieldD = 0) ∧
  (∀ (w : CmdWord), decode w = .ok .rdlRd ↔ w.op = 0xE ∧ w.rsv = 0 ∧ w.fieldA = 0 ∧ w.fieldD = 0) ∧
  (∀ s : State, s.phase = .idle →
    exec .rdhRd s = .next { s with sc := s.cfg.nSettle, results := s.results ++ [(s.issuer, .ok (.u8 s.rdh))] } ∧
    exec .rdlRd s = .next { s with sc := s.cfg.nSettle, results := s.results ++ [(s.issuer, .ok (.u8 s.rdl))] }) ∧
  (∀ s : State, s.phase ≠ .idle →
    exec .rdhRd s = .next { s with faults := { s.faults with reentry := true } } ∧
    exec .rdlRd s = .next { s with faults := { s.faults with reentry := true } })

/-- R104: a trigger while WR_BUSY = 1, by WDL_WR or by a transaction's micro-step, adds the fault and does nothing else. -/
def Obligations.TriggerWhileBusyFaults : Prop :=
  (∀ (s : State) (b : Byte), s.phase = .idle → s.wrBusy = true →
    exec (.wdlWr b) s = .next { s with faults := { s.faults with triggerWhileBusy := true } }) ∧
  (∀ (s : State) (b : Byte), s.micro = some (.wr .wdl b) → s.wrBusy = true →
    fsmCycle s = { s with faults := { s.faults with triggerWhileBusy := true } })

/-- In a state of the invariant no move raises TriggerWhileBusy but the presentation of a WDL_WR: no transaction does. -/
def Obligations.TransactionsNeverTriggerWhileBusy : Prop :=
  ∀ s t : State, s.Inv → step s = .next t → (∀ c w b, s.turn = .present c w → decode w ≠ .ok (.wdlWr b)) →
    t.faults.triggerWhileBusy = false

/-- R205: starting any operation but a transform outside IDLE is the Reentry fault and nothing else. -/
def Obligations.ReentryFaults : Prop :=
  (∀ (i : Instr) (s : State), i.WellFormed → ¬ IsTransform i → s.phase ≠ .idle →
    exec i s = .next { s with faults := { s.faults with reentry := true } }) ∧
  (∀ (i : Instr) (s : State), IsTransform i → ∃ t, exec i s = .next t ∧ t.faults = s.faults)

/-! ### Polls and transactions (41_register_channel.md, 42_sample_pipe.md) -/

/-- R120, R121: one attempt of a poll; only a bound ends it before its status bit has the wanted value. -/
def Obligations.PollAttempt : Prop :=
  ∀ (s : State) (op : Txn) (k : Nat) (f : StatusBit) (want : Bool),
    s.phase = .run op k → s.micro = some (.poll f want) →
    (0 < s.sc → fsmCycle s = { s with sc := s.sc - 1 }) ∧
    (s.sc = 0 → s.status f = want →
      fsmCycle s = { s with sc := s.cfg.nSettle, draws := s.draws + 1, pcnt := 0, phase := .run op (k + 1) }) ∧
    (s.sc = 0 → s.status f ≠ want → (∀ n, s.cfg.pollLimit = some n → s.pcnt + 1 < n) →
      fsmCycle s = { s with sc := s.cfg.nSettle, draws := s.draws + 1, pcnt := s.pcnt + 1 }) ∧
    (∀ n, s.sc = 0 → s.status f ≠ want → s.cfg.pollLimit = some n → n ≤ s.pcnt + 1 →
      fsmCycle s = { s with sc := s.cfg.nSettle, draws := s.draws + 1, pcnt := s.pcnt + 1, phase := .idle,
                            results := s.results ++ [(s.owner, .timeout)] })

/-- R203: a TIMEOUT is delivered only where `POLL_LIMIT` is bounded, by a step that ends in IDLE and writes no data port
and triggers nothing. -/
def Obligations.TimeoutOnlyWhenBounded : Prop :=
  ∀ (s t : State) (c : Nat), step s = .next t → t.results = s.results ++ [(c, .timeout)] →
    (∃ n, s.cfg.pollLimit = some n) ∧ t.phase = .idle ∧ t.wdh = s.wdh ∧ t.wdl = s.wdl ∧ t.txbuf = s.txbuf ∧
    t.wrBusy = s.wrBusy ∧ t.txlog = s.txlog

/-- R204: without a bound, a poll whose status bit never has the wanted value goes on for ever while the link does not
move. The order of moves is the model's agenda (log entry 3). -/
def Obligations.UnboundedPollHangs : Prop :=
  ∀ (s : State) (f : StatusBit) (want : Bool) (n : Nat) (rest : List Turn),
    s.NoFault → s.cfg.pollLimit = none → s.micro = some (.poll f want) → s.status f ≠ want →
    s.agenda = fsmTurns n ++ rest →
    ∃ t : State, runFor n s = .next t ∧ t.phase = s.phase ∧ t.status f ≠ want ∧
      t.results = s.results ∧ t.agenda = rest

/-- R124: the micro-program of REG_WRITE, its start and every later cycle. -/
def Obligations.RegWriteMicroProgram : Prop :=
  (∀ (w : CmdWord) (a : RegAddr) (d : Word), decode w = .ok (.regWrite a d) ↔
    w.op = 0x2 ∧ w.rsv = 0 ∧ w.operandA = a ∧ w.fieldD = d) ∧
  (∀ (s : State) (a : RegAddr) (d : Word), s.phase ≠ .idle →
    exec (.regWrite a d) s = .next { s with faults := { s.faults with reentry := true } }) ∧
  (∀ (s : State) (a : RegAddr) (d : Word), s.phase = .idle →
    exec (.regWrite a d) s = .next { s with a := a, d := d, pcnt := 0, owner := s.issuer, wdh := cmdWrite s.cfg a,
                                            sc := s.cfg.nSettle, phase := .run .regWrite 2 }) ∧
  (∀ (s : State) (k : Nat), k = 2 ∨ k = 4 ∨ k = 5 → s.phase = .run .regWrite k →
    s.micro = some (.poll .wrBusy false)) ∧
  (∀ s : State, s.phase = .run .regWrite 3 → s.wrBusy = false →
    fsmCycle s = { s with wdl := s.d.setWidth 8, txbuf := s.wdh ++ s.d.setWidth 8, wrBusy := true, sc := s.cfg.nSettle,
                          phase := .run .regWrite 4 }) ∧
  (∀ s : State, s.phase = .run .regWrite 6 →
    fsmCycle s = { s with wdh := 0, sc := s.cfg.nSettle, phase := .run .regWrite 7 }) ∧
  (∀ s : State, s.phase = .run .regWrite 7 → s.wrBusy = false →
    fsmCycle s = { s with wdl := 0, txbuf := s.wdh ++ (0 : Byte), wrBusy := true, sc := s.cfg.nSettle, phase := .idle,
                          results := s.results ++ [(s.owner, .ok .none)] })

/-- R126, R127: the micro-program of REG_READ, its start and every later cycle, and its result. -/
def Obligations.RegReadMicroProgram : Prop :=
  (∀ (w : CmdWord) (a : RegAddr), decode w = .ok (.regRead a) ↔
    w.op = 0x1 ∧ w.rsv = 0 ∧ w.operandA = a ∧ w.fieldD = 0) ∧
  (∀ (s : State) (a : RegAddr), s.phase ≠ .idle →
    exec (.regRead a) s = .next { s with faults := { s.faults with reentry := true } }) ∧
  (∀ (s : State) (a : RegAddr), s.phase = .idle →
    exec (.regRead a) s = .next { s with a := a, d := 0, pcnt := 0, owner := s.issuer, wdh := cmdRead s.cfg a,
                                         sc := s.cfg.nSettle, phase := .run .regRead 2 }) ∧
  (∀ (s : State) (k : Nat), k = 2 ∨ k = 4 → s.phase = .run .regRead k → s.micro = some (.poll .wrBusy false)) ∧
  (∀ s : State, s.phase = .run .regRead 5 → s.micro = some (.poll .dataAvail true)) ∧
  (∀ s : State, s.phase = .run .regRead 3 → s.wrBusy = false →
    fsmCycle s = { s with wdl := 0, txbuf := s.wdh ++ (0 : Byte), wrBusy := true, sc := s.cfg.nSettle,
                          phase := .run .regRead 4 }) ∧
  (∀ s : State, s.phase = .run .regRead 6 →
    fsmCycle s = { s with wdh := 0, sc := s.cfg.nSettle, phase := .run .regRead 7 }) ∧
  (∀ s : State, s.phase = .run .regRead 7 → s.wrBusy = false →
    fsmCycle s = { s with wdl := 0, txbuf := s.wdh ++ (0 : Byte), wrBusy := true, sc := s.cfg.nSettle,
                          phase := .run .regRead 8 }) ∧
  (∀ s : State, s.phase = .run .regRead 8 →
    fsmCycle s = { s with lo := s.rdl, sc := s.cfg.nSettle, phase := .run .regRead 9 }) ∧
  (∀ s : State, s.phase = .run .regRead 9 →
    fsmCycle s = { s with hi := s.rdh, sc := s.cfg.nSettle, phase := .idle,
                          results := s.results ++
                            [(s.owner, .ok (.u16 (s.rdh.setWidth 16 <<< 8 ||| s.lo.setWidth 16)))] })

/-- R140: the micro-program of SAMPLE_WRITE. Its start makes the first attempt of the poll. -/
def Obligations.SampleWriteMicroProgram : Prop :=
  (∀ (w : CmdWord) (d : Word), decode w = .ok (.sampleWrite d) ↔
    w.op = 0x4 ∧ w.rsv = 0 ∧ w.fieldA = 0 ∧ w.fieldD = d) ∧
  (∀ (s : State) (d : Word), s.phase ≠ .idle →
    exec (.sampleWrite d) s = .next { s with faults := { s.faults with reentry := true } }) ∧
  (∀ (s : State) (d : Word), s.phase = .idle → s.sc = 0 → s.wrBusy = false →
    exec (.sampleWrite d) s = .next { s with a := 0, d := d, pcnt := 0, owner := s.issuer, sc := s.cfg.nSettle,
                                             draws := s.draws + 1, phase := .run .sampleWrite 2 }) ∧
  (∀ (s : State) (d : Word), s.phase = .idle → 0 < s.sc →
    exec (.sampleWrite d) s = .next { s with a := 0, d := d, pcnt := 0, owner := s.issuer, sc := s.sc - 1,
                                             phase := .run .sampleWrite 1 }) ∧
  (∀ (s : State) (d : Word), s.phase = .idle → s.sc = 0 → s.wrBusy = true → s.cfg.pollLimit ≠ some 0 →
    s.cfg.pollLimit ≠ some 1 →
    exec (.sampleWrite d) s = .next { s with a := 0, d := d, pcnt := 1, owner := s.issuer, sc := s.cfg.nSettle,
                                             draws := s.draws + 1, phase := .run .sampleWrite 1 }) ∧
  (∀ (s : State) (d : Word), s.phase = .idle → s.sc = 0 → s.wrBusy = true → s.cfg.pollLimit = some 1 →
    exec (.sampleWrite d) s = .next { s with a := 0, d := d, pcnt := 1, owner := s.issuer, sc := s.cfg.nSettle,
                                             draws := s.draws + 1, results := s.results ++ [(s.issuer, .timeout)] }) ∧
  (∀ s : State, s.phase = .run .sampleWrite 1 → s.micro = some (.poll .wrBusy false)) ∧
  (∀ s : State, s.phase = .run .sampleWrite 2 →
    fsmCycle s = { s with wdh := (s.d >>> 8).setWidth 8, sc := s.cfg.nSettle, phase := .run .sampleWrite 3 }) ∧
  (∀ s : State, s.phase = .run .sampleWrite 3 → s.wrBusy = false →
    fsmCycle s = { s with wdl := s.d.setWidth 8 &&& 0xFE, txbuf := s.wdh ++ (s.d.setWidth 8 &&& 0xFE), wrBusy := true,
                          sc := s.cfg.nSettle, phase := .idle, results := s.results ++ [(s.owner, .ok .none)] })

/-- R142: the micro-program of SAMPLE_READ. Its start makes the first attempt of the poll; the high byte is read first and
no bit of the word is masked. -/
def Obligations.SampleReadMicroProgram : Prop :=
  (∀ (w : CmdWord), decode w = .ok .sampleRead ↔ w.op = 0x3 ∧ w.rsv = 0 ∧ w.fieldA = 0 ∧ w.fieldD = 0) ∧
  (∀ s : State, s.phase ≠ .idle →
    exec .sampleRead s = .next { s with faults := { s.faults with reentry := true } }) ∧
  (∀ s : State, s.phase = .idle → s.sc = 0 → s.dataAvail = true →
    exec .sampleRead s = .next { s with a := 0, d := 0, pcnt := 0, owner := s.issuer, sc := s.cfg.nSettle,
                                        draws := s.draws + 1, phase := .run .sampleRead 2 }) ∧
  (∀ s : State, s.phase = .idle → 0 < s.sc →
    exec .sampleRead s = .next { s with a := 0, d := 0, pcnt := 0, owner := s.issuer, sc := s.sc - 1,
                                        phase := .run .sampleRead 1 }) ∧
  (∀ s : State, s.phase = .idle → s.sc = 0 → s.dataAvail = false → s.cfg.pollLimit ≠ some 0 →
    s.cfg.pollLimit ≠ some 1 →
    exec .sampleRead s = .next { s with a := 0, d := 0, pcnt := 1, owner := s.issuer, sc := s.cfg.nSettle,
                                        draws := s.draws + 1, phase := .run .sampleRead 1 }) ∧
  (∀ s : State, s.phase = .idle → s.sc = 0 → s.dataAvail = false → s.cfg.pollLimit = some 1 →
    exec .sampleRead s = .next { s with a := 0, d := 0, pcnt := 1, owner := s.issuer, sc := s.cfg.nSettle,
                                        draws := s.draws + 1, results := s.results ++ [(s.issuer, .timeout)] }) ∧
  (∀ s : State, s.phase = .run .sampleRead 1 → s.micro = some (.poll .dataAvail true)) ∧
  (∀ s : State, s.phase = .run .sampleRead 2 →
    fsmCycle s = { s with hi := s.rdh, sc := s.cfg.nSettle, phase := .run .sampleRead 3 }) ∧
  (∀ s : State, s.phase = .run .sampleRead 3 →
    fsmCycle s = { s with lo := s.rdl, sc := s.cfg.nSettle, phase := .idle,
                          results := s.results ++
                            [(s.owner, .ok (.u16 (s.hi.setWidth 16 <<< 8 ||| s.rdl.setWidth 16)))] })

/-- REG_WRITE from its command to its result in the minimum number of cycles, `3 * N_SETTLE + 7`, for every value of the
parameters, where the link sends the word right after the trigger. The order of moves is the model's agenda (log entry 3). -/
def Obligations.RegWriteRunsInMinimumCycles : Prop :=
  ∀ (s : State) (w : CmdWord) (a : RegAddr) (d : Word) (rest : List Turn),
    s.NoFault → s.phase = .idle → s.wrBusy = false → 1 ≤ s.cfg.nCallers → decode w = .ok (.regWrite a d) →
    s.agenda = .present 0 w :: (fsmTurns (s.cfg.nSettle + 1) ++ .fsm :: .linkTx ::
      (fsmTurns (s.cfg.nSettle + 1) ++ (fsmTurns (s.cfg.nSettle + 1) ++ .fsm :: .fsm :: rest))) →
    runFor (3 * s.cfg.nSettle + 8) s = .next { s with
      agenda := rest, issuer := 0, owner := 0, a := a, d := d, pcnt := 0, sc := s.cfg.nSettle, wdh := 0, wdl := 0,
      txbuf := 0, txlog := s.txlog ++ [cmdWrite s.cfg a ++ d.setWidth 8], wrBusy := true, draws := s.draws + 3,
      results := s.results ++ [(0, .ok .none)] }

/-- REG_READ from its command to its result in the minimum number of cycles, `3 * N_SETTLE + 9`, where the link sends the
command's word and then delivers `x`. The order of moves is the model's agenda (log entry 3). -/
def Obligations.RegReadRunsInMinimumCycles : Prop :=
  ∀ (s : State) (w : CmdWord) (a : RegAddr) (x : Word) (rest : List Turn),
    s.NoFault → s.phase = .idle → s.wrBusy = false → 1 ≤ s.cfg.nCallers → decode w = .ok (.regRead a) →
    s.agenda = .present 0 w :: (fsmTurns (s.cfg.nSettle + 1) ++ .fsm :: .linkTx :: .linkRx x ::
      (fsmTurns (s.cfg.nSettle + 1) ++ (fsmTurns (s.cfg.nSettle + 1) ++ .fsm :: .fsm :: .fsm :: .fsm :: rest))) →
    runFor (3 * s.cfg.nSettle + 11) s = .next { s with
      agenda := rest, issuer := 0, owner := 0, a := a, d := 0, pcnt := 0, sc := s.cfg.nSettle, wdh := 0, wdl := 0,
      txbuf := 0, txlog := s.txlog ++ [cmdRead s.cfg a ++ (0 : Byte)], wrBusy := true, dataAvail := true,
      rdh := (x >>> 8).setWidth 8, rdl := x.setWidth 8, hi := (x >>> 8).setWidth 8, lo := x.setWidth 8,
      draws := s.draws + 3, results := s.results ++ [(0, .ok (.u16 x))] }

/-- SAMPLE_WRITE from its command to its result in the minimum number of cycles, 3 more than `sc` at the start. The order of
moves is the model's agenda (log entry 3). -/
def Obligations.SampleWriteRunsInMinimumCycles : Prop :=
  ∀ (s : State) (w : CmdWord) (d : Word) (rest : List Turn),
    s.NoFault → s.phase = .idle → s.wrBusy = false → 1 ≤ s.cfg.nCallers → decode w = .ok (.sampleWrite d) →
    s.agenda = .present 0 w :: (fsmTurns s.sc ++ .fsm :: .fsm :: rest) →
    runFor (s.sc + 3) s = .next { s with
      agenda := rest, issuer := 0, owner := 0, a := 0, d := d, pcnt := 0, sc := s.cfg.nSettle,
      wdh := (d >>> 8).setWidth 8, wdl := d.setWidth 8 &&& 0xFE, txbuf := d &&& 0xFFFE, wrBusy := true,
      draws := s.draws + 1, results := s.results ++ [(0, .ok .none)] }

/-- SAMPLE_READ from its command to its result in the minimum number of cycles, 3 more than `sc` at the start: the word
the read ports hold, whenever it was received. The order of moves is the model's agenda (log entry 3). -/
def Obligations.SampleReadRunsInMinimumCycles : Prop :=
  ∀ (s : State) (w : CmdWord) (rest : List Turn),
    s.NoFault → s.phase = .idle → s.dataAvail = true → 1 ≤ s.cfg.nCallers → decode w = .ok .sampleRead →
    s.agenda = .present 0 w :: (fsmTurns s.sc ++ .fsm :: .fsm :: rest) →
    runFor (s.sc + 3) s = .next { s with
      agenda := rest, issuer := 0, owner := 0, a := 0, d := 0, pcnt := 0, sc := s.cfg.nSettle, hi := s.rdh, lo := s.rdl,
      draws := s.draws + 1, results := s.results ++ [(0, .ok (.u16 (s.rdh ++ s.rdl)))] }

/-- R54: a word the link delivers between the two byte reads gives a result torn from two words. The order of moves
is the model's agenda (log entry 3). -/
def Obligations.TornReads : Prop :=
  (∀ (s : State) (x : Word) (rest : List Turn), s.NoFault → s.phase = .run .regRead 8 →
    s.agenda = .fsm :: .linkRx x :: .fsm :: rest →
    ∃ t : State, runFor 3 s = .next t ∧ t.phase = .idle ∧
      t.results = s.results ++ [(s.owner, .ok (.u16 ((x >>> 8).setWidth 8 ++ s.rdl)))]) ∧
  (∀ (s : State) (x : Word) (rest : List Turn), s.NoFault → s.phase = .run .sampleRead 2 →
    s.agenda = .fsm :: .linkRx x :: .fsm :: rest →
    ∃ t : State, runFor 3 s = .next t ∧ t.phase = .idle ∧
      t.results = s.results ++ [(s.owner, .ok (.u16 (s.rdh ++ x.setWidth 8)))])

/-- R125: when REG_WRITE ends without TIMEOUT, its word is the last one sent, and the clearing word is in flight. -/
def Obligations.RegWriteWordHasBeenSent : Prop :=
  ∀ (s t : State) (k : Nat), s.Inv → step s = .next t → s.phase = .run .regWrite k → t.phase = .idle →
    t.results = s.results ++ [(s.owner, .ok .none)] →
    t.txlog.getLast? = some (cmdWrite s.cfg s.a ++ s.d.setWidth 8) ∧ t.txbuf = 0 ∧ t.wrBusy = true

/-- Every word SAMPLE_WRITE places in `txbuf` has bit 0 equal to 0. -/
def Obligations.SampleWordLowBitIsZero : Prop :=
  ∀ (s t : State) (k : Nat), step s = .next t → s.phase = .run .sampleWrite k → t.txbuf ≠ s.txbuf →
    t.txbuf.getLsbD 0 = false

/-! ### Whole-machine rules -/

/-- R24: WR_BUSY is set only by a trigger and cleared only by the link's `L_TX`; while it stays 1 the word in flight stays. -/
def Obligations.WrBusyChangesOnlyByTriggerAndLink : Prop :=
  ∀ s t : State, step s = .next t →
    (s.wrBusy = false → t.wrBusy = true →
      t.txbuf = s.wdh ++ t.wdl ∧
      (s.turn = .fsm ∧ s.micro = some (.wr .wdl t.wdl) ∨
       ∃ c w, s.turn = .present c w ∧ decode w = .ok (.wdlWr t.wdl))) ∧
    (s.wrBusy = true → t.wrBusy = false → s.turn = .linkTx ∧ t.txlog = s.txlog ++ [s.txbuf]) ∧
    (s.wrBusy = true → t.wrBusy = true → t.txbuf = s.txbuf ∧ t.txlog = s.txlog)

/-- R25: DATA_AVAIL is set only by `L_RX`, which loads RDH and RDL, and cleared only by `L_AVCLR`; a read goes on past its
poll only where it is 1. -/
def Obligations.DataAvailChangesOnlyByLink : Prop :=
  ∀ s t : State, step s = .next t →
    (s.dataAvail = false → t.dataAvail = true →
      ∃ w : Word, s.turn = .linkRx w ∧ t.rdh = (w >>> 8).setWidth 8 ∧ t.rdl = w.setWidth 8) ∧
    (s.dataAvail = true → t.dataAvail = false → s.turn = .linkAvClr) ∧
    (s.AwaitsData → t.phase ≠ s.phase → t.phase ≠ .idle → s.dataAvail = true)

/-- R32: RDH and RDL change only together, when the link receives a word, and then hold its bytes. -/
def Obligations.ReadPortsHoldLastReceivedWord : Prop :=
  ∀ s t : State, step s = .next t →
    (∀ w : Word, s.turn = .linkRx w → t.rdh ++ t.rdl = w) ∧
    ((∀ w : Word, s.turn ≠ .linkRx w) → t.rdh = s.rdh ∧ t.rdl = s.rdl)

/-- R22, R23: RESET_N and ENABLE change only by an accepted CSR_WR, to the written bits, and no rule of the FSM reads them:
its cycles are the same whatever they hold. -/
def Obligations.ControlBitsHoldLastWrite : Prop :=
  (∀ s t : State, step s = .next t → (t.resetN ≠ s.resetN ∨ t.enable ≠ s.enable) →
    ∃ c w b, s.turn = .present c w ∧ decode w = .ok (.csrWr b)) ∧
  (∀ (s : State) (b : Byte), b &&& 0x7D = 0 → s.phase = .idle →
    ∃ t, exec (.csrWr b) s = .next t ∧ t.resetN = b.getLsbD 7 ∧ t.enable = b.getLsbD 1) ∧
  (∀ (s : State) (b : Byte), fsmCycle (s.putControl b) = (fsmCycle s).putControl b)

/-- `txlog` only grows, and only by the word in flight when the link takes `L_TX`. -/
def Obligations.SentWordsAreNeverLost : Prop :=
  ∀ s t : State, step s = .next t →
    t.txlog = s.txlog ∨ (s.turn = .linkTx ∧ s.wrBusy = true ∧ t.txlog = s.txlog ++ [s.txbuf])

/-- R38: `fault` and `refused` are empty and clear at reset, and no move of any agent
clears a reason or the mark. -/
def Obligations.MarksAreSticky : Prop :=
  State.reset.faults = FaultSet.empty ∧ State.reset.refused = false ∧
  (∀ (m : Turn) (s t : State), takeTurn m s = .next t →
    (s.faults.triggerWhileBusy = true → t.faults.triggerWhileBusy = true) ∧
    (s.faults.reentry = true → t.faults.reentry = true) ∧ (s.refused = true → t.refused = true)) ∧
  (∀ s t : State, step s = .next t → s.refused = true → t.refused = true)

/-- What no operation changes, and what the start of a transaction leaves unchanged. -/
def Obligations.InstructionFrames : Prop :=
  (∀ (i : Instr) (s t : State), exec i s = .next t →
    t.cfg = s.cfg ∧ t.dataAvail = s.dataAvail ∧ t.rdh = s.rdh ∧ t.rdl = s.rdl ∧ t.txlog = s.txlog ∧
    t.issuer = s.issuer ∧ t.agenda = s.agenda ∧ t.lo = s.lo ∧ t.hi = s.hi) ∧
  (∀ (i : Instr) (s t : State), (∃ a, i = .regRead a) ∨ (∃ a d, i = .regWrite a d) ∨ i = .sampleRead ∨
      (∃ d, i = .sampleWrite d) → exec i s = .next t →
    t.resetN = s.resetN ∧ t.enable = s.enable ∧ t.wrBusy = s.wrBusy ∧ t.wdl = s.wdl ∧ t.txbuf = s.txbuf ∧
    t.refused = s.refused ∧ t.faults.triggerWhileBusy = s.faults.triggerWhileBusy ∧
    (s.phase = .idle → t.faults = s.faults) ∧
    (i = .sampleRead ∨ (∃ d, i = .sampleWrite d) → t.wdh = s.wdh))

/-- What no cycle of the FSM changes: the parameters, the control bits, what only the link writes, the latched operands,
the mark, the callers and the agenda; at most one data port changes. -/
def Obligations.FsmCycleFrame : Prop :=
  ∀ s : State,
    (fsmCycle s).cfg = s.cfg ∧ (fsmCycle s).resetN = s.resetN ∧ (fsmCycle s).enable = s.enable ∧
    (fsmCycle s).dataAvail = s.dataAvail ∧ (fsmCycle s).rdh = s.rdh ∧ (fsmCycle s).rdl = s.rdl ∧
    (fsmCycle s).a = s.a ∧ (fsmCycle s).d = s.d ∧ (fsmCycle s).txlog = s.txlog ∧
    (fsmCycle s).refused = s.refused ∧ (fsmCycle s).issuer = s.issuer ∧ (fsmCycle s).owner = s.owner ∧
    (fsmCycle s).agenda = s.agenda ∧ (s.wrBusy = true → (fsmCycle s).wrBusy = true) ∧
    ((fsmCycle s).wdh = s.wdh ∨ (fsmCycle s).wdl = s.wdl)

/-- With one caller no step raises Reentry, and a caller waiting for its result makes no step. The owner and the
passed-over move are the model's choice (log entries 4 and 8). -/
def Obligations.SingleCallerNeverReenters : Prop :=
  (∀ s t : State, s.Inv → s.cfg.nCallers = 1 → step s = .next t → t.faults.reentry = false) ∧
  (∀ (s : State) (c : Nat) (w : CmdWord) (rest : List Turn), s.NoFault → s.agenda = .present c w :: rest →
    s.phase ≠ .idle → s.owner = c → step s = .next { s with agenda := rest })

/-- A state after block reset, every unspecified piece at any value, meets the invariant; so does `State.reset`,
whose unspecified pieces are the model's choice (log entries 1 and 2). -/
def Obligations.ResetMeetsInvariant : Prop :=
  (∀ s : State, s.AfterReset → s.cfg.Valid → s.Inv) ∧ State.reset.Inv

/-- Every step keeps the invariant. -/
def Obligations.StepKeepsInvariant : Prop := ∀ s t : State, s.Inv → step s = .next t → t.Inv

/-- What reset leaves: the values the spec gives, in every phase of R37 it specifies. -/
def Obligations.ResetLeavesSpecValues : Prop :=
  State.reset.phase = .idle ∧ State.reset.sc = 0 ∧ State.reset.pcnt = 0 ∧ State.reset.txlog = [] ∧
  State.reset.faults = FaultSet.empty ∧ State.reset.refused = false ∧ State.reset.CleanLaunch

/-- R216: on a run from the invariant whose FSM is weakly fair, a responsive link lets every transaction end.
Both premises are on the order of moves (log entry 9). -/
def Obligations.ResponsiveLinkLetsTransactionsEnd : Prop :=
  ∀ (turns : Nat → Turn) (r : Nat → State),
    (r 0).Inv → IsRun turns r → FsmFair turns r → LinkResponsive turns r → ∀ n, ∃ m, n ≤ m ∧ (r m).phase = .idle

/-! ### Companders (43_mulaw.md, 44_alaw.md) -/

/-- R166: a transform's value depends on its operand alone; it writes only its result, in every state, a transaction in
progress or not. -/
def Obligations.TransformsWriteOnlyTheirResult : Prop :=
  ∀ i : Instr, IsTransform i → ∃ v : Value, ∀ s : State,
    exec i s = .next { s with results := s.results ++ [(s.issuer, .ok v)] }

/-- R160, R180: the search finds the smallest index whose limit is above the magnitude, 8 if there is none. -/
def Obligations.SegmentSearchFindsSmallest : Prop :=
  (∀ m i : Nat, i < 8 → (segment limU m = i ↔ m < 64 * 2 ^ i ∧ ∀ j, j < i → 64 * 2 ^ j ≤ m)) ∧
  (∀ m : Nat, segment limU m = 8 ↔ 8192 ≤ m) ∧
  (∀ m i : Nat, i < 8 → (segment limA m = i ↔ m < 32 * 2 ^ i ∧ ∀ j, j < i → 32 * 2 ^ j ≤ m)) ∧
  (∀ m : Nat, segment limA m = 8 ↔ 4096 ≤ m)

/-- R162: ENC_ULAW, in integer arithmetic. -/
def Obligations.EncUlawFollowsTheFormula : Prop :=
  (∀ (w : CmdWord) (pcm : Word), decode w = .ok (.encUlaw pcm) ↔
    w.op = 0x5 ∧ w.rsv = 0 ∧ w.fieldA = 0 ∧ w.fieldD = pcm) ∧
  ∀ (pcm : Word) (s : State), ∃ code : Byte,
    exec (.encUlaw pcm) s = .next { s with results := s.results ++ [(s.issuer, .ok (.u8 code))] } ∧
    ∀ (q : Int) (v : Nat), q = Int.fdiv pcm.toInt 4 → v = min q.natAbs 8159 + 33 →
      (v = 8192 → code = if q < 0 then 0x00 else 0x80) ∧
      (∀ i : Nat, i < 8 → v < 64 * 2 ^ i → (∀ j, j < i → 64 * 2 ^ j ≤ v) →
        code.toNat = (16 * i + v / 2 ^ (i + 1) % 16) ^^^ (if q < 0 then 0x7F else 0xFF))

/-- R164: DEC_ULAW, in integer arithmetic. -/
def Obligations.DecUlawFollowsTheFormula : Prop :=
  (∀ (w : CmdWord) (b : Byte), decode w = .ok (.decUlaw b) ↔
    w.op = 0x6 ∧ w.rsv = 0 ∧ w.fieldA = 0 ∧ w.highD = 0 ∧ w.operandB = b) ∧
  ∀ (code : Byte) (s : State), ∃ w : Word,
    exec (.decUlaw code) s = .next { s with results := s.results ++ [(s.issuer, .ok (.i16 w))] } ∧
    (∀ u t : Nat, u = 255 - code.toNat → t = (u % 16 * 8 + 132) * 2 ^ (u / 16 % 8) →
      w.toInt = if 128 ≤ u then 132 - (t : Int) else (t : Int) - 132)

/-- R182: ENC_ALAW, in integer arithmetic, with the division truncated toward zero. -/
def Obligations.EncAlawFollowsTheFormula : Prop :=
  (∀ (w : CmdWord) (pcm : Word), decode w = .ok (.encAlaw pcm) ↔
    w.op = 0x7 ∧ w.rsv = 0 ∧ w.fieldA = 0 ∧ w.fieldD = pcm) ∧
  ∀ (pcm : Word) (s : State), ∃ code : Byte,
    exec (.encAlaw pcm) s = .next { s with results := s.results ++ [(s.issuer, .ok (.u8 code))] } ∧
    ∀ (q : Int) (v : Nat), q = Int.tdiv pcm.toInt 8 → (v : Int) = (if 0 ≤ q then q else -q - 1) →
      v ≤ 4095 ∧
      (∀ i : Nat, i < 8 → v < 32 * 2 ^ i → (∀ j, j < i → 32 * 2 ^ j ≤ v) →
        code.toNat = (16 * i + v / (if i < 2 then 2 else 2 ^ i) % 16) ^^^ (if 0 ≤ q then 0xD5 else 0x55))

/-- R184: DEC_ALAW, in integer arithmetic, with the base term in every segment. -/
def Obligations.DecAlawFollowsTheFormula : Prop :=
  (∀ (w : CmdWord) (b : Byte), decode w = .ok (.decAlaw b) ↔
    w.op = 0x8 ∧ w.rsv = 0 ∧ w.fieldA = 0 ∧ w.highD = 0 ∧ w.operandB = b) ∧
  ∀ (code : Byte) (s : State), ∃ w : Word,
    exec (.decAlaw code) s = .next { s with results := s.results ++ [(s.issuer, .ok (.i16 w))] } ∧
    (∀ x t g m : Nat, x = code.toNat ^^^ 0x55 → t = x % 16 * 16 → g = x / 16 % 8 →
      m = (if g = 0 then t + 8 else (t + 264) * 2 ^ (g - 1)) →
      w.toInt = if 128 ≤ x then (m : Int) else -(m : Int))

/-- What the spec derives of the values' ranges. mu-law saturation happens exactly for `pcm` in 32636..32767 and in
-32768..-32633, and gives 0x80 and 0x00; the code 0x7F is never produced; DEC_ULAW gives a multiple of 4 within 32124 of 0.
For every sample the A-law segment is below 8, so its saturation branch, which would give 0xAA and 0x2A, is never taken;
DEC_ALAW never gives 0 and stays within 32256 of it. -/
def Obligations.CompanderRanges : Prop :=
  (∀ pcm : Word, (segment limU (ulawMagnitude pcm.toInt) = 8 ↔ 32636 ≤ pcm.toInt ∨ pcm.toInt ≤ -32633) ∧
    (32636 ≤ pcm.toInt → encodeUlaw pcm = 0x80) ∧ (pcm.toInt ≤ -32633 → encodeUlaw pcm = 0x00) ∧
    encodeUlaw pcm ≠ 0x7F) ∧
  (∀ code : Byte, (decodeUlaw code).toInt % 4 = 0 ∧ (decodeUlaw code).toInt.natAbs ≤ 32124) ∧
  (∀ pcm : Word, alawMagnitude pcm.toInt ≤ 4095 ∧ segment limA (alawMagnitude pcm.toInt) ≤ 7) ∧
  (∀ v : Nat, segment limA v = 8 → alawCode v ^^^ 0xD5 = 0xAA ∧ alawCode v ^^^ 0x55 = 0x2A) ∧
  encodeAlaw 0x7FFF = 0xAA ∧ encodeAlaw 0x8000 = 0x2A ∧
  (∀ code : Byte, (decodeAlaw code).toInt ≠ 0 ∧ (decodeAlaw code).toInt.natAbs ≤ 32256)

/-- R165: the mu-law round trip is within one step of the segment, with the largest error 644, at -32768; every code but
0x7F comes back. -/
def Obligations.UlawRoundTrip : Prop :=
  (∀ (pcm : Word) (e : Nat), e = ((decodeUlaw (encodeUlaw pcm)).toInt - pcm.toInt).natAbs →
    e ≤ 8 * 2 ^ ((255 - (encodeUlaw pcm).toNat) / 16 % 8) ∧ e ≤ 644 ∧ (e = 644 ↔ pcm = 0x8000)) ∧
  (∀ code : Byte, code ≠ 0x7F → encodeUlaw (decodeUlaw code) = code) ∧
  encodeUlaw (decodeUlaw 0x7F) = 0xFF

/-- R185: the A-law round trip is within one step of the segment, with the largest error 519, at the fifteen listed
inputs; every code comes back. -/
def Obligations.AlawRoundTrip : Prop :=
  (∀ (pcm : Word) (e : Nat), e = ((decodeAlaw (encodeAlaw pcm)).toInt - pcm.toInt).natAbs →
    e ≤ 16 * 2 ^ (((encodeAlaw pcm).toNat ^^^ 0x55) / 16 % 8 - 1) ∧ e ≤ 519 ∧
    (e = 519 ↔ ∃ k : Nat, k ≤ 14 ∧ pcm.toInt = -31751 + 1024 * k)) ∧
  (∀ code : Byte, encodeAlaw (decodeAlaw code) = code) ∧
  decodeAlaw (encodeAlaw 0) = 8
end

