-- ==== Sys2Proof/Laws/Decode.lean ====
section
/-! SUPPORT. What the decoder does, said once: the words of each operation. -/

namespace Sys2Proof

/-- The fields of the words that decode to `i`, above `OP` and `RSV` (30_encoding.md R71, R72). -/
def Instr.Fields (w : CmdWord) : Instr → Prop
  | .nop | .sampleRead | .csrRd | .rdhRd | .rdlRd => w.fieldA = 0 ∧ w.fieldD = 0
  | .regRead a => w.operandA = a ∧ w.fieldD = 0
  | .regWrite a d => w.operandA = a ∧ w.fieldD = d
  | .sampleWrite d | .encUlaw d | .encAlaw d => w.fieldA = 0 ∧ w.fieldD = d
  | .decUlaw b | .decAlaw b | .wdhWr b | .wdlWr b => w.fieldA = 0 ∧ w.highD = 0 ∧ w.operandB = b
  | .csrWr b => w.fieldA = 0 ∧ w.highD = 0 ∧ w.operandB = b ∧ CsrByteOk b

theorem needA_ok {w : CmdWord} {i j : Instr} : needA w i = .ok j ↔ w.fieldA = 0 ∧ i = j := by
  unfold needA; split <;> simp_all

theorem needAD_ok {w : CmdWord} {i j : Instr} : needAD w i = .ok j ↔ w.fieldD = 0 ∧ w.fieldA = 0 ∧ i = j := by
  unfold needAD; split <;> simp_all [needA_ok]

theorem needAHigh_ok {w : CmdWord} {i j : Instr} : needAHigh w i = .ok j ↔ w.highD = 0 ∧ w.fieldA = 0 ∧ i = j := by
  unfold needAHigh; split <;> simp_all [needA_ok]

/-- A word decodes to `i` exactly when its `OP` is `i`'s, its `RSV` is 0 and its other fields are `i`'s. -/
theorem decode_ok_iff {w : CmdWord} {i : Instr} : decode w = .ok i ↔ w.op = opcode i ∧ w.rsv = 0 ∧ i.Fields w := by
  unfold decode
  split
  · rename_i h
    have ho : ∀ k : Nat, k < 16 → (w.op.toNat = k ↔ w.op = BitVec.ofNat 4 k) := fun k hk => by
      rw [← BitVec.toNat_inj, BitVec.toNat_ofNat, Nat.mod_eq_of_lt hk]
    unfold decodeOp
    have hlt := w.op.isLt
    generalize hk : w.op.toNat = k at hlt
    have hop := (ho k hlt).1 hk
    interval_cases k <;> cases i <;> simp only [] <;> (try split) <;>
      simp [needA_ok, needAD_ok, needAHigh_ok, hop, h, opcode, Instr.Fields] <;> grind
  · rename_i h; constructor <;> simp_all

end Sys2Proof
end

