-- ==== Sys2Proof/Laws/State.lean ====
section
/-! SUPPORT. One lemma per field per update of the state: what each named operation does to each field. -/

namespace Sys2Proof.Machine

@[simp] theorem State.openWindow_cfg (s : State) : s.openWindow.cfg = s.cfg := rfl
@[simp] theorem State.openWindow_resetN (s : State) : s.openWindow.resetN = s.resetN := rfl
@[simp] theorem State.openWindow_enable (s : State) : s.openWindow.enable = s.enable := rfl
@[simp] theorem State.openWindow_wrBusy (s : State) : s.openWindow.wrBusy = s.wrBusy := rfl
@[simp] theorem State.openWindow_dataAvail (s : State) : s.openWindow.dataAvail = s.dataAvail := rfl
@[simp] theorem State.openWindow_wdh (s : State) : s.openWindow.wdh = s.wdh := rfl
@[simp] theorem State.openWindow_wdl (s : State) : s.openWindow.wdl = s.wdl := rfl
@[simp] theorem State.openWindow_rdh (s : State) : s.openWindow.rdh = s.rdh := rfl
@[simp] theorem State.openWindow_rdl (s : State) : s.openWindow.rdl = s.rdl := rfl
@[simp] theorem State.openWindow_phase (s : State) : s.openWindow.phase = s.phase := rfl
@[simp] theorem State.openWindow_sc (s : State) : s.openWindow.sc = s.cfg.nSettle := rfl
@[simp] theorem State.openWindow_pcnt (s : State) : s.openWindow.pcnt = s.pcnt := rfl
@[simp] theorem State.openWindow_a (s : State) : s.openWindow.a = s.a := rfl
@[simp] theorem State.openWindow_d (s : State) : s.openWindow.d = s.d := rfl
@[simp] theorem State.openWindow_lo (s : State) : s.openWindow.lo = s.lo := rfl
@[simp] theorem State.openWindow_hi (s : State) : s.openWindow.hi = s.hi := rfl
@[simp] theorem State.openWindow_txbuf (s : State) : s.openWindow.txbuf = s.txbuf := rfl
@[simp] theorem State.openWindow_txlog (s : State) : s.openWindow.txlog = s.txlog := rfl
@[simp] theorem State.openWindow_faults (s : State) : s.openWindow.faults = s.faults := rfl
@[simp] theorem State.openWindow_refused (s : State) : s.openWindow.refused = s.refused := rfl
@[simp] theorem State.openWindow_issuer (s : State) : s.openWindow.issuer = s.issuer := rfl
@[simp] theorem State.openWindow_owner (s : State) : s.openWindow.owner = s.owner := rfl
@[simp] theorem State.openWindow_results (s : State) : s.openWindow.results = s.results := rfl
@[simp] theorem State.openWindow_agenda (s : State) : s.openWindow.agenda = s.agenda := rfl
@[simp] theorem State.openWindow_draws (s : State) : s.openWindow.draws = s.draws := rfl

@[simp] theorem State.settle_cfg (s : State) : s.settle.cfg = s.cfg := rfl
@[simp] theorem State.settle_resetN (s : State) : s.settle.resetN = s.resetN := rfl
@[simp] theorem State.settle_enable (s : State) : s.settle.enable = s.enable := rfl
@[simp] theorem State.settle_wrBusy (s : State) : s.settle.wrBusy = s.wrBusy := rfl
@[simp] theorem State.settle_dataAvail (s : State) : s.settle.dataAvail = s.dataAvail := rfl
@[simp] theorem State.settle_wdh (s : State) : s.settle.wdh = s.wdh := rfl
@[simp] theorem State.settle_wdl (s : State) : s.settle.wdl = s.wdl := rfl
@[simp] theorem State.settle_rdh (s : State) : s.settle.rdh = s.rdh := rfl
@[simp] theorem State.settle_rdl (s : State) : s.settle.rdl = s.rdl := rfl
@[simp] theorem State.settle_phase (s : State) : s.settle.phase = s.phase := rfl
@[simp] theorem State.settle_sc (s : State) : s.settle.sc = s.sc - 1 := rfl
@[simp] theorem State.settle_pcnt (s : State) : s.settle.pcnt = s.pcnt := rfl
@[simp] theorem State.settle_a (s : State) : s.settle.a = s.a := rfl
@[simp] theorem State.settle_d (s : State) : s.settle.d = s.d := rfl
@[simp] theorem State.settle_lo (s : State) : s.settle.lo = s.lo := rfl
@[simp] theorem State.settle_hi (s : State) : s.settle.hi = s.hi := rfl
@[simp] theorem State.settle_txbuf (s : State) : s.settle.txbuf = s.txbuf := rfl
@[simp] theorem State.settle_txlog (s : State) : s.settle.txlog = s.txlog := rfl
@[simp] theorem State.settle_faults (s : State) : s.settle.faults = s.faults := rfl
@[simp] theorem State.settle_refused (s : State) : s.settle.refused = s.refused := rfl
@[simp] theorem State.settle_issuer (s : State) : s.settle.issuer = s.issuer := rfl
@[simp] theorem State.settle_owner (s : State) : s.settle.owner = s.owner := rfl
@[simp] theorem State.settle_results (s : State) : s.settle.results = s.results := rfl
@[simp] theorem State.settle_agenda (s : State) : s.settle.agenda = s.agenda := rfl
@[simp] theorem State.settle_draws (s : State) : s.settle.draws = s.draws := rfl

@[simp] theorem State.putControl_cfg (b : Byte) (s : State) : (State.putControl b s).cfg = s.cfg := rfl
@[simp] theorem State.putControl_resetN (b : Byte) (s : State) : (State.putControl b s).resetN = b.getLsbD 7 := rfl
@[simp] theorem State.putControl_enable (b : Byte) (s : State) : (State.putControl b s).enable = b.getLsbD 1 := rfl
@[simp] theorem State.putControl_wrBusy (b : Byte) (s : State) : (State.putControl b s).wrBusy = s.wrBusy := rfl
@[simp] theorem State.putControl_dataAvail (b : Byte) (s : State) : (State.putControl b s).dataAvail = s.dataAvail := rfl
@[simp] theorem State.putControl_wdh (b : Byte) (s : State) : (State.putControl b s).wdh = s.wdh := rfl
@[simp] theorem State.putControl_wdl (b : Byte) (s : State) : (State.putControl b s).wdl = s.wdl := rfl
@[simp] theorem State.putControl_rdh (b : Byte) (s : State) : (State.putControl b s).rdh = s.rdh := rfl
@[simp] theorem State.putControl_rdl (b : Byte) (s : State) : (State.putControl b s).rdl = s.rdl := rfl
@[simp] theorem State.putControl_phase (b : Byte) (s : State) : (State.putControl b s).phase = s.phase := rfl
@[simp] theorem State.putControl_sc (b : Byte) (s : State) : (State.putControl b s).sc = s.sc := rfl
@[simp] theorem State.putControl_pcnt (b : Byte) (s : State) : (State.putControl b s).pcnt = s.pcnt := rfl
@[simp] theorem State.putControl_a (b : Byte) (s : State) : (State.putControl b s).a = s.a := rfl
@[simp] theorem State.putControl_d (b : Byte) (s : State) : (State.putControl b s).d = s.d := rfl
@[simp] theorem State.putControl_lo (b : Byte) (s : State) : (State.putControl b s).lo = s.lo := rfl
@[simp] theorem State.putControl_hi (b : Byte) (s : State) : (State.putControl b s).hi = s.hi := rfl
@[simp] theorem State.putControl_txbuf (b : Byte) (s : State) : (State.putControl b s).txbuf = s.txbuf := rfl
@[simp] theorem State.putControl_txlog (b : Byte) (s : State) : (State.putControl b s).txlog = s.txlog := rfl
@[simp] theorem State.putControl_faults (b : Byte) (s : State) : (State.putControl b s).faults = s.faults := rfl
@[simp] theorem State.putControl_refused (b : Byte) (s : State) : (State.putControl b s).refused = s.refused := rfl
@[simp] theorem State.putControl_issuer (b : Byte) (s : State) : (State.putControl b s).issuer = s.issuer := rfl
@[simp] theorem State.putControl_owner (b : Byte) (s : State) : (State.putControl b s).owner = s.owner := rfl
@[simp] theorem State.putControl_results (b : Byte) (s : State) : (State.putControl b s).results = s.results := rfl
@[simp] theorem State.putControl_agenda (b : Byte) (s : State) : (State.putControl b s).agenda = s.agenda := rfl
@[simp] theorem State.putControl_draws (b : Byte) (s : State) : (State.putControl b s).draws = s.draws := rfl

@[simp] theorem State.putWdh_cfg (b : Byte) (s : State) : (State.putWdh b s).cfg = s.cfg := rfl
@[simp] theorem State.putWdh_resetN (b : Byte) (s : State) : (State.putWdh b s).resetN = s.resetN := rfl
@[simp] theorem State.putWdh_enable (b : Byte) (s : State) : (State.putWdh b s).enable = s.enable := rfl
@[simp] theorem State.putWdh_wrBusy (b : Byte) (s : State) : (State.putWdh b s).wrBusy = s.wrBusy := rfl
@[simp] theorem State.putWdh_dataAvail (b : Byte) (s : State) : (State.putWdh b s).dataAvail = s.dataAvail := rfl
@[simp] theorem State.putWdh_wdh (b : Byte) (s : State) : (State.putWdh b s).wdh = b := rfl
@[simp] theorem State.putWdh_wdl (b : Byte) (s : State) : (State.putWdh b s).wdl = s.wdl := rfl
@[simp] theorem State.putWdh_rdh (b : Byte) (s : State) : (State.putWdh b s).rdh = s.rdh := rfl
@[simp] theorem State.putWdh_rdl (b : Byte) (s : State) : (State.putWdh b s).rdl = s.rdl := rfl
@[simp] theorem State.putWdh_phase (b : Byte) (s : State) : (State.putWdh b s).phase = s.phase := rfl
@[simp] theorem State.putWdh_sc (b : Byte) (s : State) : (State.putWdh b s).sc = s.sc := rfl
@[simp] theorem State.putWdh_pcnt (b : Byte) (s : State) : (State.putWdh b s).pcnt = s.pcnt := rfl
@[simp] theorem State.putWdh_a (b : Byte) (s : State) : (State.putWdh b s).a = s.a := rfl
@[simp] theorem State.putWdh_d (b : Byte) (s : State) : (State.putWdh b s).d = s.d := rfl
@[simp] theorem State.putWdh_lo (b : Byte) (s : State) : (State.putWdh b s).lo = s.lo := rfl
@[simp] theorem State.putWdh_hi (b : Byte) (s : State) : (State.putWdh b s).hi = s.hi := rfl
@[simp] theorem State.putWdh_txbuf (b : Byte) (s : State) : (State.putWdh b s).txbuf = s.txbuf := rfl
@[simp] theorem State.putWdh_txlog (b : Byte) (s : State) : (State.putWdh b s).txlog = s.txlog := rfl
@[simp] theorem State.putWdh_faults (b : Byte) (s : State) : (State.putWdh b s).faults = s.faults := rfl
@[simp] theorem State.putWdh_refused (b : Byte) (s : State) : (State.putWdh b s).refused = s.refused := rfl
@[simp] theorem State.putWdh_issuer (b : Byte) (s : State) : (State.putWdh b s).issuer = s.issuer := rfl
@[simp] theorem State.putWdh_owner (b : Byte) (s : State) : (State.putWdh b s).owner = s.owner := rfl
@[simp] theorem State.putWdh_results (b : Byte) (s : State) : (State.putWdh b s).results = s.results := rfl
@[simp] theorem State.putWdh_agenda (b : Byte) (s : State) : (State.putWdh b s).agenda = s.agenda := rfl
@[simp] theorem State.putWdh_draws (b : Byte) (s : State) : (State.putWdh b s).draws = s.draws := rfl

@[simp] theorem State.trigger_cfg (b : Byte) (s : State) : (State.trigger b s).cfg = s.cfg := rfl
@[simp] theorem State.trigger_resetN (b : Byte) (s : State) : (State.trigger b s).resetN = s.resetN := rfl
@[simp] theorem State.trigger_enable (b : Byte) (s : State) : (State.trigger b s).enable = s.enable := rfl
@[simp] theorem State.trigger_wrBusy (b : Byte) (s : State) : (State.trigger b s).wrBusy = true := rfl
@[simp] theorem State.trigger_dataAvail (b : Byte) (s : State) : (State.trigger b s).dataAvail = s.dataAvail := rfl
@[simp] theorem State.trigger_wdh (b : Byte) (s : State) : (State.trigger b s).wdh = s.wdh := rfl
@[simp] theorem State.trigger_wdl (b : Byte) (s : State) : (State.trigger b s).wdl = b := rfl
@[simp] theorem State.trigger_rdh (b : Byte) (s : State) : (State.trigger b s).rdh = s.rdh := rfl
@[simp] theorem State.trigger_rdl (b : Byte) (s : State) : (State.trigger b s).rdl = s.rdl := rfl
@[simp] theorem State.trigger_phase (b : Byte) (s : State) : (State.trigger b s).phase = s.phase := rfl
@[simp] theorem State.trigger_sc (b : Byte) (s : State) : (State.trigger b s).sc = s.sc := rfl
@[simp] theorem State.trigger_pcnt (b : Byte) (s : State) : (State.trigger b s).pcnt = s.pcnt := rfl
@[simp] theorem State.trigger_a (b : Byte) (s : State) : (State.trigger b s).a = s.a := rfl
@[simp] theorem State.trigger_d (b : Byte) (s : State) : (State.trigger b s).d = s.d := rfl
@[simp] theorem State.trigger_lo (b : Byte) (s : State) : (State.trigger b s).lo = s.lo := rfl
@[simp] theorem State.trigger_hi (b : Byte) (s : State) : (State.trigger b s).hi = s.hi := rfl
@[simp] theorem State.trigger_txbuf (b : Byte) (s : State) : (State.trigger b s).txbuf = s.wdh ++ b := rfl
@[simp] theorem State.trigger_txlog (b : Byte) (s : State) : (State.trigger b s).txlog = s.txlog := rfl
@[simp] theorem State.trigger_faults (b : Byte) (s : State) : (State.trigger b s).faults = s.faults := rfl
@[simp] theorem State.trigger_refused (b : Byte) (s : State) : (State.trigger b s).refused = s.refused := rfl
@[simp] theorem State.trigger_issuer (b : Byte) (s : State) : (State.trigger b s).issuer = s.issuer := rfl
@[simp] theorem State.trigger_owner (b : Byte) (s : State) : (State.trigger b s).owner = s.owner := rfl
@[simp] theorem State.trigger_results (b : Byte) (s : State) : (State.trigger b s).results = s.results := rfl
@[simp] theorem State.trigger_agenda (b : Byte) (s : State) : (State.trigger b s).agenda = s.agenda := rfl
@[simp] theorem State.trigger_draws (b : Byte) (s : State) : (State.trigger b s).draws = s.draws := rfl

@[simp] theorem State.raise_cfg (f : Fault) (s : State) : (State.raise f s).cfg = s.cfg := rfl
@[simp] theorem State.raise_resetN (f : Fault) (s : State) : (State.raise f s).resetN = s.resetN := rfl
@[simp] theorem State.raise_enable (f : Fault) (s : State) : (State.raise f s).enable = s.enable := rfl
@[simp] theorem State.raise_wrBusy (f : Fault) (s : State) : (State.raise f s).wrBusy = s.wrBusy := rfl
@[simp] theorem State.raise_dataAvail (f : Fault) (s : State) : (State.raise f s).dataAvail = s.dataAvail := rfl
@[simp] theorem State.raise_wdh (f : Fault) (s : State) : (State.raise f s).wdh = s.wdh := rfl
@[simp] theorem State.raise_wdl (f : Fault) (s : State) : (State.raise f s).wdl = s.wdl := rfl
@[simp] theorem State.raise_rdh (f : Fault) (s : State) : (State.raise f s).rdh = s.rdh := rfl
@[simp] theorem State.raise_rdl (f : Fault) (s : State) : (State.raise f s).rdl = s.rdl := rfl
@[simp] theorem State.raise_phase (f : Fault) (s : State) : (State.raise f s).phase = s.phase := rfl
@[simp] theorem State.raise_sc (f : Fault) (s : State) : (State.raise f s).sc = s.sc := rfl
@[simp] theorem State.raise_pcnt (f : Fault) (s : State) : (State.raise f s).pcnt = s.pcnt := rfl
@[simp] theorem State.raise_a (f : Fault) (s : State) : (State.raise f s).a = s.a := rfl
@[simp] theorem State.raise_d (f : Fault) (s : State) : (State.raise f s).d = s.d := rfl
@[simp] theorem State.raise_lo (f : Fault) (s : State) : (State.raise f s).lo = s.lo := rfl
@[simp] theorem State.raise_hi (f : Fault) (s : State) : (State.raise f s).hi = s.hi := rfl
@[simp] theorem State.raise_txbuf (f : Fault) (s : State) : (State.raise f s).txbuf = s.txbuf := rfl
@[simp] theorem State.raise_txlog (f : Fault) (s : State) : (State.raise f s).txlog = s.txlog := rfl
@[simp] theorem State.raise_faults (f : Fault) (s : State) : (State.raise f s).faults = s.faults.insert f := rfl
@[simp] theorem State.raise_refused (f : Fault) (s : State) : (State.raise f s).refused = s.refused := rfl
@[simp] theorem State.raise_issuer (f : Fault) (s : State) : (State.raise f s).issuer = s.issuer := rfl
@[simp] theorem State.raise_owner (f : Fault) (s : State) : (State.raise f s).owner = s.owner := rfl
@[simp] theorem State.raise_results (f : Fault) (s : State) : (State.raise f s).results = s.results := rfl
@[simp] theorem State.raise_agenda (f : Fault) (s : State) : (State.raise f s).agenda = s.agenda := rfl
@[simp] theorem State.raise_draws (f : Fault) (s : State) : (State.raise f s).draws = s.draws := rfl

@[simp] theorem State.refuse_cfg (s : State) : s.refuse.cfg = s.cfg := rfl
@[simp] theorem State.refuse_resetN (s : State) : s.refuse.resetN = s.resetN := rfl
@[simp] theorem State.refuse_enable (s : State) : s.refuse.enable = s.enable := rfl
@[simp] theorem State.refuse_wrBusy (s : State) : s.refuse.wrBusy = s.wrBusy := rfl
@[simp] theorem State.refuse_dataAvail (s : State) : s.refuse.dataAvail = s.dataAvail := rfl
@[simp] theorem State.refuse_wdh (s : State) : s.refuse.wdh = s.wdh := rfl
@[simp] theorem State.refuse_wdl (s : State) : s.refuse.wdl = s.wdl := rfl
@[simp] theorem State.refuse_rdh (s : State) : s.refuse.rdh = s.rdh := rfl
@[simp] theorem State.refuse_rdl (s : State) : s.refuse.rdl = s.rdl := rfl
@[simp] theorem State.refuse_phase (s : State) : s.refuse.phase = s.phase := rfl
@[simp] theorem State.refuse_sc (s : State) : s.refuse.sc = s.sc := rfl
@[simp] theorem State.refuse_pcnt (s : State) : s.refuse.pcnt = s.pcnt := rfl
@[simp] theorem State.refuse_a (s : State) : s.refuse.a = s.a := rfl
@[simp] theorem State.refuse_d (s : State) : s.refuse.d = s.d := rfl
@[simp] theorem State.refuse_lo (s : State) : s.refuse.lo = s.lo := rfl
@[simp] theorem State.refuse_hi (s : State) : s.refuse.hi = s.hi := rfl
@[simp] theorem State.refuse_txbuf (s : State) : s.refuse.txbuf = s.txbuf := rfl
@[simp] theorem State.refuse_txlog (s : State) : s.refuse.txlog = s.txlog := rfl
@[simp] theorem State.refuse_faults (s : State) : s.refuse.faults = s.faults := rfl
@[simp] theorem State.refuse_refused (s : State) : s.refuse.refused = true := rfl
@[simp] theorem State.refuse_issuer (s : State) : s.refuse.issuer = s.issuer := rfl
@[simp] theorem State.refuse_owner (s : State) : s.refuse.owner = s.owner := rfl
@[simp] theorem State.refuse_results (s : State) : s.refuse.results = s.results := rfl
@[simp] theorem State.refuse_agenda (s : State) : s.refuse.agenda = s.agenda := rfl
@[simp] theorem State.refuse_draws (s : State) : s.refuse.draws = s.draws := rfl

@[simp] theorem State.deliver_cfg (c : Nat) (r : Result) (s : State) : (State.deliver c r s).cfg = s.cfg := rfl
@[simp] theorem State.deliver_resetN (c : Nat) (r : Result) (s : State) : (State.deliver c r s).resetN = s.resetN := rfl
@[simp] theorem State.deliver_enable (c : Nat) (r : Result) (s : State) : (State.deliver c r s).enable = s.enable := rfl
@[simp] theorem State.deliver_wrBusy (c : Nat) (r : Result) (s : State) : (State.deliver c r s).wrBusy = s.wrBusy := rfl
@[simp] theorem State.deliver_dataAvail (c : Nat) (r : Result) (s : State) : (State.deliver c r s).dataAvail = s.dataAvail := rfl
@[simp] theorem State.deliver_wdh (c : Nat) (r : Result) (s : State) : (State.deliver c r s).wdh = s.wdh := rfl
@[simp] theorem State.deliver_wdl (c : Nat) (r : Result) (s : State) : (State.deliver c r s).wdl = s.wdl := rfl
@[simp] theorem State.deliver_rdh (c : Nat) (r : Result) (s : State) : (State.deliver c r s).rdh = s.rdh := rfl
@[simp] theorem State.deliver_rdl (c : Nat) (r : Result) (s : State) : (State.deliver c r s).rdl = s.rdl := rfl
@[simp] theorem State.deliver_phase (c : Nat) (r : Result) (s : State) : (State.deliver c r s).phase = s.phase := rfl
@[simp] theorem State.deliver_sc (c : Nat) (r : Result) (s : State) : (State.deliver c r s).sc = s.sc := rfl
@[simp] theorem State.deliver_pcnt (c : Nat) (r : Result) (s : State) : (State.deliver c r s).pcnt = s.pcnt := rfl
@[simp] theorem State.deliver_a (c : Nat) (r : Result) (s : State) : (State.deliver c r s).a = s.a := rfl
@[simp] theorem State.deliver_d (c : Nat) (r : Result) (s : State) : (State.deliver c r s).d = s.d := rfl
@[simp] theorem State.deliver_lo (c : Nat) (r : Result) (s : State) : (State.deliver c r s).lo = s.lo := rfl
@[simp] theorem State.deliver_hi (c : Nat) (r : Result) (s : State) : (State.deliver c r s).hi = s.hi := rfl
@[simp] theorem State.deliver_txbuf (c : Nat) (r : Result) (s : State) : (State.deliver c r s).txbuf = s.txbuf := rfl
@[simp] theorem State.deliver_txlog (c : Nat) (r : Result) (s : State) : (State.deliver c r s).txlog = s.txlog := rfl
@[simp] theorem State.deliver_faults (c : Nat) (r : Result) (s : State) : (State.deliver c r s).faults = s.faults := rfl
@[simp] theorem State.deliver_refused (c : Nat) (r : Result) (s : State) : (State.deliver c r s).refused = s.refused := rfl
@[simp] theorem State.deliver_issuer (c : Nat) (r : Result) (s : State) : (State.deliver c r s).issuer = s.issuer := rfl
@[simp] theorem State.deliver_owner (c : Nat) (r : Result) (s : State) : (State.deliver c r s).owner = s.owner := rfl
@[simp] theorem State.deliver_results (c : Nat) (r : Result) (s : State) : (State.deliver c r s).results = s.results ++ [(c, r)] := rfl
@[simp] theorem State.deliver_agenda (c : Nat) (r : Result) (s : State) : (State.deliver c r s).agenda = s.agenda := rfl
@[simp] theorem State.deliver_draws (c : Nat) (r : Result) (s : State) : (State.deliver c r s).draws = s.draws := rfl

@[simp] theorem State.drawn_cfg (s : State) : s.drawn.cfg = s.cfg := rfl
@[simp] theorem State.drawn_resetN (s : State) : s.drawn.resetN = s.resetN := rfl
@[simp] theorem State.drawn_enable (s : State) : s.drawn.enable = s.enable := rfl
@[simp] theorem State.drawn_wrBusy (s : State) : s.drawn.wrBusy = s.wrBusy := rfl
@[simp] theorem State.drawn_dataAvail (s : State) : s.drawn.dataAvail = s.dataAvail := rfl
@[simp] theorem State.drawn_wdh (s : State) : s.drawn.wdh = s.wdh := rfl
@[simp] theorem State.drawn_wdl (s : State) : s.drawn.wdl = s.wdl := rfl
@[simp] theorem State.drawn_rdh (s : State) : s.drawn.rdh = s.rdh := rfl
@[simp] theorem State.drawn_rdl (s : State) : s.drawn.rdl = s.rdl := rfl
@[simp] theorem State.drawn_phase (s : State) : s.drawn.phase = s.phase := rfl
@[simp] theorem State.drawn_sc (s : State) : s.drawn.sc = s.sc := rfl
@[simp] theorem State.drawn_pcnt (s : State) : s.drawn.pcnt = s.pcnt := rfl
@[simp] theorem State.drawn_a (s : State) : s.drawn.a = s.a := rfl
@[simp] theorem State.drawn_d (s : State) : s.drawn.d = s.d := rfl
@[simp] theorem State.drawn_lo (s : State) : s.drawn.lo = s.lo := rfl
@[simp] theorem State.drawn_hi (s : State) : s.drawn.hi = s.hi := rfl
@[simp] theorem State.drawn_txbuf (s : State) : s.drawn.txbuf = s.txbuf := rfl
@[simp] theorem State.drawn_txlog (s : State) : s.drawn.txlog = s.txlog := rfl
@[simp] theorem State.drawn_faults (s : State) : s.drawn.faults = s.faults := rfl
@[simp] theorem State.drawn_refused (s : State) : s.drawn.refused = s.refused := rfl
@[simp] theorem State.drawn_issuer (s : State) : s.drawn.issuer = s.issuer := rfl
@[simp] theorem State.drawn_owner (s : State) : s.drawn.owner = s.owner := rfl
@[simp] theorem State.drawn_results (s : State) : s.drawn.results = s.results := rfl
@[simp] theorem State.drawn_agenda (s : State) : s.drawn.agenda = s.agenda := rfl
@[simp] theorem State.drawn_draws (s : State) : s.drawn.draws = s.draws + 1 := rfl

@[simp] theorem State.latch_cfg (op : Txn) (x : RegAddr) (y : Word) (s : State) : (State.latch op x y s).cfg = s.cfg := rfl
@[simp] theorem State.latch_resetN (op : Txn) (x : RegAddr) (y : Word) (s : State) : (State.latch op x y s).resetN = s.resetN := rfl
@[simp] theorem State.latch_enable (op : Txn) (x : RegAddr) (y : Word) (s : State) : (State.latch op x y s).enable = s.enable := rfl
@[simp] theorem State.latch_wrBusy (op : Txn) (x : RegAddr) (y : Word) (s : State) : (State.latch op x y s).wrBusy = s.wrBusy := rfl
@[simp] theorem State.latch_dataAvail (op : Txn) (x : RegAddr) (y : Word) (s : State) : (State.latch op x y s).dataAvail = s.dataAvail := rfl
@[simp] theorem State.latch_wdh (op : Txn) (x : RegAddr) (y : Word) (s : State) : (State.latch op x y s).wdh = s.wdh := rfl
@[simp] theorem State.latch_wdl (op : Txn) (x : RegAddr) (y : Word) (s : State) : (State.latch op x y s).wdl = s.wdl := rfl
@[simp] theorem State.latch_rdh (op : Txn) (x : RegAddr) (y : Word) (s : State) : (State.latch op x y s).rdh = s.rdh := rfl
@[simp] theorem State.latch_rdl (op : Txn) (x : RegAddr) (y : Word) (s : State) : (State.latch op x y s).rdl = s.rdl := rfl
@[simp] theorem State.latch_phase (op : Txn) (x : RegAddr) (y : Word) (s : State) : (State.latch op x y s).phase = .run op 1 := rfl
@[simp] theorem State.latch_sc (op : Txn) (x : RegAddr) (y : Word) (s : State) : (State.latch op x y s).sc = s.sc := rfl
@[simp] theorem State.latch_pcnt (op : Txn) (x : RegAddr) (y : Word) (s : State) : (State.latch op x y s).pcnt = 0 := rfl
@[simp] theorem State.latch_a (op : Txn) (x : RegAddr) (y : Word) (s : State) : (State.latch op x y s).a = x := rfl
@[simp] theorem State.latch_d (op : Txn) (x : RegAddr) (y : Word) (s : State) : (State.latch op x y s).d = y := rfl
@[simp] theorem State.latch_lo (op : Txn) (x : RegAddr) (y : Word) (s : State) : (State.latch op x y s).lo = s.lo := rfl
@[simp] theorem State.latch_hi (op : Txn) (x : RegAddr) (y : Word) (s : State) : (State.latch op x y s).hi = s.hi := rfl
@[simp] theorem State.latch_txbuf (op : Txn) (x : RegAddr) (y : Word) (s : State) : (State.latch op x y s).txbuf = s.txbuf := rfl
@[simp] theorem State.latch_txlog (op : Txn) (x : RegAddr) (y : Word) (s : State) : (State.latch op x y s).txlog = s.txlog := rfl
@[simp] theorem State.latch_faults (op : Txn) (x : RegAddr) (y : Word) (s : State) : (State.latch op x y s).faults = s.faults := rfl
@[simp] theorem State.latch_refused (op : Txn) (x : RegAddr) (y : Word) (s : State) : (State.latch op x y s).refused = s.refused := rfl
@[simp] theorem State.latch_issuer (op : Txn) (x : RegAddr) (y : Word) (s : State) : (State.latch op x y s).issuer = s.issuer := rfl
@[simp] theorem State.latch_owner (op : Txn) (x : RegAddr) (y : Word) (s : State) : (State.latch op x y s).owner = s.issuer := rfl
@[simp] theorem State.latch_results (op : Txn) (x : RegAddr) (y : Word) (s : State) : (State.latch op x y s).results = s.results := rfl
@[simp] theorem State.latch_agenda (op : Txn) (x : RegAddr) (y : Word) (s : State) : (State.latch op x y s).agenda = s.agenda := rfl
@[simp] theorem State.latch_draws (op : Txn) (x : RegAddr) (y : Word) (s : State) : (State.latch op x y s).draws = s.draws := rfl

@[simp] theorem State.goto_cfg (p : Phase) (s : State) : (State.goto p s).cfg = s.cfg := rfl
@[simp] theorem State.goto_resetN (p : Phase) (s : State) : (State.goto p s).resetN = s.resetN := rfl
@[simp] theorem State.goto_enable (p : Phase) (s : State) : (State.goto p s).enable = s.enable := rfl
@[simp] theorem State.goto_wrBusy (p : Phase) (s : State) : (State.goto p s).wrBusy = s.wrBusy := rfl
@[simp] theorem State.goto_dataAvail (p : Phase) (s : State) : (State.goto p s).dataAvail = s.dataAvail := rfl
@[simp] theorem State.goto_wdh (p : Phase) (s : State) : (State.goto p s).wdh = s.wdh := rfl
@[simp] theorem State.goto_wdl (p : Phase) (s : State) : (State.goto p s).wdl = s.wdl := rfl
@[simp] theorem State.goto_rdh (p : Phase) (s : State) : (State.goto p s).rdh = s.rdh := rfl
@[simp] theorem State.goto_rdl (p : Phase) (s : State) : (State.goto p s).rdl = s.rdl := rfl
@[simp] theorem State.goto_phase (p : Phase) (s : State) : (State.goto p s).phase = p := rfl
@[simp] theorem State.goto_sc (p : Phase) (s : State) : (State.goto p s).sc = s.sc := rfl
@[simp] theorem State.goto_pcnt (p : Phase) (s : State) : (State.goto p s).pcnt = s.pcnt := rfl
@[simp] theorem State.goto_a (p : Phase) (s : State) : (State.goto p s).a = s.a := rfl
@[simp] theorem State.goto_d (p : Phase) (s : State) : (State.goto p s).d = s.d := rfl
@[simp] theorem State.goto_lo (p : Phase) (s : State) : (State.goto p s).lo = s.lo := rfl
@[simp] theorem State.goto_hi (p : Phase) (s : State) : (State.goto p s).hi = s.hi := rfl
@[simp] theorem State.goto_txbuf (p : Phase) (s : State) : (State.goto p s).txbuf = s.txbuf := rfl
@[simp] theorem State.goto_txlog (p : Phase) (s : State) : (State.goto p s).txlog = s.txlog := rfl
@[simp] theorem State.goto_faults (p : Phase) (s : State) : (State.goto p s).faults = s.faults := rfl
@[simp] theorem State.goto_refused (p : Phase) (s : State) : (State.goto p s).refused = s.refused := rfl
@[simp] theorem State.goto_issuer (p : Phase) (s : State) : (State.goto p s).issuer = s.issuer := rfl
@[simp] theorem State.goto_owner (p : Phase) (s : State) : (State.goto p s).owner = s.owner := rfl
@[simp] theorem State.goto_results (p : Phase) (s : State) : (State.goto p s).results = s.results := rfl
@[simp] theorem State.goto_agenda (p : Phase) (s : State) : (State.goto p s).agenda = s.agenda := rfl
@[simp] theorem State.goto_draws (p : Phase) (s : State) : (State.goto p s).draws = s.draws := rfl

@[simp] theorem State.setPcnt_cfg (n : Nat) (s : State) : (State.setPcnt n s).cfg = s.cfg := rfl
@[simp] theorem State.setPcnt_resetN (n : Nat) (s : State) : (State.setPcnt n s).resetN = s.resetN := rfl
@[simp] theorem State.setPcnt_enable (n : Nat) (s : State) : (State.setPcnt n s).enable = s.enable := rfl
@[simp] theorem State.setPcnt_wrBusy (n : Nat) (s : State) : (State.setPcnt n s).wrBusy = s.wrBusy := rfl
@[simp] theorem State.setPcnt_dataAvail (n : Nat) (s : State) : (State.setPcnt n s).dataAvail = s.dataAvail := rfl
@[simp] theorem State.setPcnt_wdh (n : Nat) (s : State) : (State.setPcnt n s).wdh = s.wdh := rfl
@[simp] theorem State.setPcnt_wdl (n : Nat) (s : State) : (State.setPcnt n s).wdl = s.wdl := rfl
@[simp] theorem State.setPcnt_rdh (n : Nat) (s : State) : (State.setPcnt n s).rdh = s.rdh := rfl
@[simp] theorem State.setPcnt_rdl (n : Nat) (s : State) : (State.setPcnt n s).rdl = s.rdl := rfl
@[simp] theorem State.setPcnt_phase (n : Nat) (s : State) : (State.setPcnt n s).phase = s.phase := rfl
@[simp] theorem State.setPcnt_sc (n : Nat) (s : State) : (State.setPcnt n s).sc = s.sc := rfl
@[simp] theorem State.setPcnt_pcnt (n : Nat) (s : State) : (State.setPcnt n s).pcnt = n := rfl
@[simp] theorem State.setPcnt_a (n : Nat) (s : State) : (State.setPcnt n s).a = s.a := rfl
@[simp] theorem State.setPcnt_d (n : Nat) (s : State) : (State.setPcnt n s).d = s.d := rfl
@[simp] theorem State.setPcnt_lo (n : Nat) (s : State) : (State.setPcnt n s).lo = s.lo := rfl
@[simp] theorem State.setPcnt_hi (n : Nat) (s : State) : (State.setPcnt n s).hi = s.hi := rfl
@[simp] theorem State.setPcnt_txbuf (n : Nat) (s : State) : (State.setPcnt n s).txbuf = s.txbuf := rfl
@[simp] theorem State.setPcnt_txlog (n : Nat) (s : State) : (State.setPcnt n s).txlog = s.txlog := rfl
@[simp] theorem State.setPcnt_faults (n : Nat) (s : State) : (State.setPcnt n s).faults = s.faults := rfl
@[simp] theorem State.setPcnt_refused (n : Nat) (s : State) : (State.setPcnt n s).refused = s.refused := rfl
@[simp] theorem State.setPcnt_issuer (n : Nat) (s : State) : (State.setPcnt n s).issuer = s.issuer := rfl
@[simp] theorem State.setPcnt_owner (n : Nat) (s : State) : (State.setPcnt n s).owner = s.owner := rfl
@[simp] theorem State.setPcnt_results (n : Nat) (s : State) : (State.setPcnt n s).results = s.results := rfl
@[simp] theorem State.setPcnt_agenda (n : Nat) (s : State) : (State.setPcnt n s).agenda = s.agenda := rfl
@[simp] theorem State.setPcnt_draws (n : Nat) (s : State) : (State.setPcnt n s).draws = s.draws := rfl

@[simp] theorem State.issue_cfg (c : Nat) (s : State) : (State.issue c s).cfg = s.cfg := rfl
@[simp] theorem State.issue_resetN (c : Nat) (s : State) : (State.issue c s).resetN = s.resetN := rfl
@[simp] theorem State.issue_enable (c : Nat) (s : State) : (State.issue c s).enable = s.enable := rfl
@[simp] theorem State.issue_wrBusy (c : Nat) (s : State) : (State.issue c s).wrBusy = s.wrBusy := rfl
@[simp] theorem State.issue_dataAvail (c : Nat) (s : State) : (State.issue c s).dataAvail = s.dataAvail := rfl
@[simp] theorem State.issue_wdh (c : Nat) (s : State) : (State.issue c s).wdh = s.wdh := rfl
@[simp] theorem State.issue_wdl (c : Nat) (s : State) : (State.issue c s).wdl = s.wdl := rfl
@[simp] theorem State.issue_rdh (c : Nat) (s : State) : (State.issue c s).rdh = s.rdh := rfl
@[simp] theorem State.issue_rdl (c : Nat) (s : State) : (State.issue c s).rdl = s.rdl := rfl
@[simp] theorem State.issue_phase (c : Nat) (s : State) : (State.issue c s).phase = s.phase := rfl
@[simp] theorem State.issue_sc (c : Nat) (s : State) : (State.issue c s).sc = s.sc := rfl
@[simp] theorem State.issue_pcnt (c : Nat) (s : State) : (State.issue c s).pcnt = s.pcnt := rfl
@[simp] theorem State.issue_a (c : Nat) (s : State) : (State.issue c s).a = s.a := rfl
@[simp] theorem State.issue_d (c : Nat) (s : State) : (State.issue c s).d = s.d := rfl
@[simp] theorem State.issue_lo (c : Nat) (s : State) : (State.issue c s).lo = s.lo := rfl
@[simp] theorem State.issue_hi (c : Nat) (s : State) : (State.issue c s).hi = s.hi := rfl
@[simp] theorem State.issue_txbuf (c : Nat) (s : State) : (State.issue c s).txbuf = s.txbuf := rfl
@[simp] theorem State.issue_txlog (c : Nat) (s : State) : (State.issue c s).txlog = s.txlog := rfl
@[simp] theorem State.issue_faults (c : Nat) (s : State) : (State.issue c s).faults = s.faults := rfl
@[simp] theorem State.issue_refused (c : Nat) (s : State) : (State.issue c s).refused = s.refused := rfl
@[simp] theorem State.issue_issuer (c : Nat) (s : State) : (State.issue c s).issuer = c := rfl
@[simp] theorem State.issue_owner (c : Nat) (s : State) : (State.issue c s).owner = s.owner := rfl
@[simp] theorem State.issue_results (c : Nat) (s : State) : (State.issue c s).results = s.results := rfl
@[simp] theorem State.issue_agenda (c : Nat) (s : State) : (State.issue c s).agenda = s.agenda := rfl
@[simp] theorem State.issue_draws (c : Nat) (s : State) : (State.issue c s).draws = s.draws := rfl

@[simp] theorem State.csrAccess_cfg (s : State) : s.csrAccess.cfg = s.cfg := rfl
@[simp] theorem State.csrAccess_resetN (s : State) : s.csrAccess.resetN = s.resetN := rfl
@[simp] theorem State.csrAccess_enable (s : State) : s.csrAccess.enable = s.enable := rfl
@[simp] theorem State.csrAccess_wrBusy (s : State) : s.csrAccess.wrBusy = s.wrBusy := rfl
@[simp] theorem State.csrAccess_dataAvail (s : State) : s.csrAccess.dataAvail = s.dataAvail := rfl
@[simp] theorem State.csrAccess_wdh (s : State) : s.csrAccess.wdh = s.wdh := rfl
@[simp] theorem State.csrAccess_wdl (s : State) : s.csrAccess.wdl = s.wdl := rfl
@[simp] theorem State.csrAccess_rdh (s : State) : s.csrAccess.rdh = s.rdh := rfl
@[simp] theorem State.csrAccess_rdl (s : State) : s.csrAccess.rdl = s.rdl := rfl
@[simp] theorem State.csrAccess_phase (s : State) : s.csrAccess.phase = s.phase := rfl
@[simp] theorem State.csrAccess_sc (s : State) : s.csrAccess.sc = s.cfg.nSettle := rfl
@[simp] theorem State.csrAccess_pcnt (s : State) : s.csrAccess.pcnt = s.pcnt := rfl
@[simp] theorem State.csrAccess_a (s : State) : s.csrAccess.a = s.a := rfl
@[simp] theorem State.csrAccess_d (s : State) : s.csrAccess.d = s.d := rfl
@[simp] theorem State.csrAccess_lo (s : State) : s.csrAccess.lo = s.lo := rfl
@[simp] theorem State.csrAccess_hi (s : State) : s.csrAccess.hi = s.hi := rfl
@[simp] theorem State.csrAccess_txbuf (s : State) : s.csrAccess.txbuf = s.txbuf := rfl
@[simp] theorem State.csrAccess_txlog (s : State) : s.csrAccess.txlog = s.txlog := rfl
@[simp] theorem State.csrAccess_faults (s : State) : s.csrAccess.faults = s.faults := rfl
@[simp] theorem State.csrAccess_refused (s : State) : s.csrAccess.refused = s.refused := rfl
@[simp] theorem State.csrAccess_issuer (s : State) : s.csrAccess.issuer = s.issuer := rfl
@[simp] theorem State.csrAccess_owner (s : State) : s.csrAccess.owner = s.owner := rfl
@[simp] theorem State.csrAccess_results (s : State) : s.csrAccess.results = s.results := rfl
@[simp] theorem State.csrAccess_agenda (s : State) : s.csrAccess.agenda = s.agenda := rfl
@[simp] theorem State.csrAccess_draws (s : State) : s.csrAccess.draws = s.draws + 1 := rfl

@[simp] theorem State.capture_cfg (p : InPort) (s : State) : (State.capture p s).cfg = s.cfg := by cases p <;> rfl
@[simp] theorem State.capture_resetN (p : InPort) (s : State) : (State.capture p s).resetN = s.resetN := by cases p <;> rfl
@[simp] theorem State.capture_enable (p : InPort) (s : State) : (State.capture p s).enable = s.enable := by cases p <;> rfl
@[simp] theorem State.capture_wrBusy (p : InPort) (s : State) : (State.capture p s).wrBusy = s.wrBusy := by cases p <;> rfl
@[simp] theorem State.capture_dataAvail (p : InPort) (s : State) : (State.capture p s).dataAvail = s.dataAvail := by cases p <;> rfl
@[simp] theorem State.capture_wdh (p : InPort) (s : State) : (State.capture p s).wdh = s.wdh := by cases p <;> rfl
@[simp] theorem State.capture_wdl (p : InPort) (s : State) : (State.capture p s).wdl = s.wdl := by cases p <;> rfl
@[simp] theorem State.capture_rdh (p : InPort) (s : State) : (State.capture p s).rdh = s.rdh := by cases p <;> rfl
@[simp] theorem State.capture_rdl (p : InPort) (s : State) : (State.capture p s).rdl = s.rdl := by cases p <;> rfl
@[simp] theorem State.capture_phase (p : InPort) (s : State) : (State.capture p s).phase = s.phase := by cases p <;> rfl
@[simp] theorem State.capture_sc (p : InPort) (s : State) : (State.capture p s).sc = s.sc := by cases p <;> rfl
@[simp] theorem State.capture_pcnt (p : InPort) (s : State) : (State.capture p s).pcnt = s.pcnt := by cases p <;> rfl
@[simp] theorem State.capture_a (p : InPort) (s : State) : (State.capture p s).a = s.a := by cases p <;> rfl
@[simp] theorem State.capture_d (p : InPort) (s : State) : (State.capture p s).d = s.d := by cases p <;> rfl
@[simp] theorem State.capture_txbuf (p : InPort) (s : State) : (State.capture p s).txbuf = s.txbuf := by cases p <;> rfl
@[simp] theorem State.capture_txlog (p : InPort) (s : State) : (State.capture p s).txlog = s.txlog := by cases p <;> rfl
@[simp] theorem State.capture_faults (p : InPort) (s : State) : (State.capture p s).faults = s.faults := by cases p <;> rfl
@[simp] theorem State.capture_refused (p : InPort) (s : State) : (State.capture p s).refused = s.refused := by cases p <;> rfl
@[simp] theorem State.capture_issuer (p : InPort) (s : State) : (State.capture p s).issuer = s.issuer := by cases p <;> rfl
@[simp] theorem State.capture_owner (p : InPort) (s : State) : (State.capture p s).owner = s.owner := by cases p <;> rfl
@[simp] theorem State.capture_results (p : InPort) (s : State) : (State.capture p s).results = s.results := by cases p <;> rfl
@[simp] theorem State.capture_agenda (p : InPort) (s : State) : (State.capture p s).agenda = s.agenda := by cases p <;> rfl
@[simp] theorem State.capture_draws (p : InPort) (s : State) : (State.capture p s).draws = s.draws := by cases p <;> rfl

@[simp] theorem linkRx_cfg (w : Word) (s : State) : (linkRx w s).cfg = s.cfg := rfl
@[simp] theorem linkRx_resetN (w : Word) (s : State) : (linkRx w s).resetN = s.resetN := rfl
@[simp] theorem linkRx_enable (w : Word) (s : State) : (linkRx w s).enable = s.enable := rfl
@[simp] theorem linkRx_wrBusy (w : Word) (s : State) : (linkRx w s).wrBusy = s.wrBusy := rfl
@[simp] theorem linkRx_dataAvail (w : Word) (s : State) : (linkRx w s).dataAvail = true := rfl
@[simp] theorem linkRx_wdh (w : Word) (s : State) : (linkRx w s).wdh = s.wdh := rfl
@[simp] theorem linkRx_wdl (w : Word) (s : State) : (linkRx w s).wdl = s.wdl := rfl
@[simp] theorem linkRx_rdh (w : Word) (s : State) : (linkRx w s).rdh = w.extractLsb' 8 8 := rfl
@[simp] theorem linkRx_rdl (w : Word) (s : State) : (linkRx w s).rdl = w.extractLsb' 0 8 := rfl
@[simp] theorem linkRx_phase (w : Word) (s : State) : (linkRx w s).phase = s.phase := rfl
@[simp] theorem linkRx_sc (w : Word) (s : State) : (linkRx w s).sc = s.sc := rfl
@[simp] theorem linkRx_pcnt (w : Word) (s : State) : (linkRx w s).pcnt = s.pcnt := rfl
@[simp] theorem linkRx_a (w : Word) (s : State) : (linkRx w s).a = s.a := rfl
@[simp] theorem linkRx_d (w : Word) (s : State) : (linkRx w s).d = s.d := rfl
@[simp] theorem linkRx_lo (w : Word) (s : State) : (linkRx w s).lo = s.lo := rfl
@[simp] theorem linkRx_hi (w : Word) (s : State) : (linkRx w s).hi = s.hi := rfl
@[simp] theorem linkRx_txbuf (w : Word) (s : State) : (linkRx w s).txbuf = s.txbuf := rfl
@[simp] theorem linkRx_txlog (w : Word) (s : State) : (linkRx w s).txlog = s.txlog := rfl
@[simp] theorem linkRx_faults (w : Word) (s : State) : (linkRx w s).faults = s.faults := rfl
@[simp] theorem linkRx_refused (w : Word) (s : State) : (linkRx w s).refused = s.refused := rfl
@[simp] theorem linkRx_issuer (w : Word) (s : State) : (linkRx w s).issuer = s.issuer := rfl
@[simp] theorem linkRx_owner (w : Word) (s : State) : (linkRx w s).owner = s.owner := rfl
@[simp] theorem linkRx_results (w : Word) (s : State) : (linkRx w s).results = s.results := rfl
@[simp] theorem linkRx_agenda (w : Word) (s : State) : (linkRx w s).agenda = s.agenda := rfl
@[simp] theorem linkRx_draws (w : Word) (s : State) : (linkRx w s).draws = s.draws := rfl

@[simp] theorem linkAvClr_cfg (s : State) : (linkAvClr s).cfg = s.cfg := rfl
@[simp] theorem linkAvClr_resetN (s : State) : (linkAvClr s).resetN = s.resetN := rfl
@[simp] theorem linkAvClr_enable (s : State) : (linkAvClr s).enable = s.enable := rfl
@[simp] theorem linkAvClr_wrBusy (s : State) : (linkAvClr s).wrBusy = s.wrBusy := rfl
@[simp] theorem linkAvClr_dataAvail (s : State) : (linkAvClr s).dataAvail = false := rfl
@[simp] theorem linkAvClr_wdh (s : State) : (linkAvClr s).wdh = s.wdh := rfl
@[simp] theorem linkAvClr_wdl (s : State) : (linkAvClr s).wdl = s.wdl := rfl
@[simp] theorem linkAvClr_rdh (s : State) : (linkAvClr s).rdh = s.rdh := rfl
@[simp] theorem linkAvClr_rdl (s : State) : (linkAvClr s).rdl = s.rdl := rfl
@[simp] theorem linkAvClr_phase (s : State) : (linkAvClr s).phase = s.phase := rfl
@[simp] theorem linkAvClr_sc (s : State) : (linkAvClr s).sc = s.sc := rfl
@[simp] theorem linkAvClr_pcnt (s : State) : (linkAvClr s).pcnt = s.pcnt := rfl
@[simp] theorem linkAvClr_a (s : State) : (linkAvClr s).a = s.a := rfl
@[simp] theorem linkAvClr_d (s : State) : (linkAvClr s).d = s.d := rfl
@[simp] theorem linkAvClr_lo (s : State) : (linkAvClr s).lo = s.lo := rfl
@[simp] theorem linkAvClr_hi (s : State) : (linkAvClr s).hi = s.hi := rfl
@[simp] theorem linkAvClr_txbuf (s : State) : (linkAvClr s).txbuf = s.txbuf := rfl
@[simp] theorem linkAvClr_txlog (s : State) : (linkAvClr s).txlog = s.txlog := rfl
@[simp] theorem linkAvClr_faults (s : State) : (linkAvClr s).faults = s.faults := rfl
@[simp] theorem linkAvClr_refused (s : State) : (linkAvClr s).refused = s.refused := rfl
@[simp] theorem linkAvClr_issuer (s : State) : (linkAvClr s).issuer = s.issuer := rfl
@[simp] theorem linkAvClr_owner (s : State) : (linkAvClr s).owner = s.owner := rfl
@[simp] theorem linkAvClr_results (s : State) : (linkAvClr s).results = s.results := rfl
@[simp] theorem linkAvClr_agenda (s : State) : (linkAvClr s).agenda = s.agenda := rfl
@[simp] theorem linkAvClr_draws (s : State) : (linkAvClr s).draws = s.draws := rfl

@[simp] theorem State.capture_rdh_hi (s : State) : (State.capture .rdh s).hi = s.rdh := rfl
@[simp] theorem State.capture_rdh_lo (s : State) : (State.capture .rdh s).lo = s.lo := rfl
@[simp] theorem State.capture_rdl_hi (s : State) : (State.capture .rdl s).hi = s.hi := rfl
@[simp] theorem State.capture_rdl_lo (s : State) : (State.capture .rdl s).lo = s.rdl := rfl

@[simp] theorem linkTx_cfg (s : State) : (linkTx s).cfg = s.cfg := by unfold linkTx; split <;> rfl
@[simp] theorem linkTx_resetN (s : State) : (linkTx s).resetN = s.resetN := by unfold linkTx; split <;> rfl
@[simp] theorem linkTx_enable (s : State) : (linkTx s).enable = s.enable := by unfold linkTx; split <;> rfl
@[simp] theorem linkTx_dataAvail (s : State) : (linkTx s).dataAvail = s.dataAvail := by unfold linkTx; split <;> rfl
@[simp] theorem linkTx_wdh (s : State) : (linkTx s).wdh = s.wdh := by unfold linkTx; split <;> rfl
@[simp] theorem linkTx_wdl (s : State) : (linkTx s).wdl = s.wdl := by unfold linkTx; split <;> rfl
@[simp] theorem linkTx_rdh (s : State) : (linkTx s).rdh = s.rdh := by unfold linkTx; split <;> rfl
@[simp] theorem linkTx_rdl (s : State) : (linkTx s).rdl = s.rdl := by unfold linkTx; split <;> rfl
@[simp] theorem linkTx_phase (s : State) : (linkTx s).phase = s.phase := by unfold linkTx; split <;> rfl
@[simp] theorem linkTx_sc (s : State) : (linkTx s).sc = s.sc := by unfold linkTx; split <;> rfl
@[simp] theorem linkTx_pcnt (s : State) : (linkTx s).pcnt = s.pcnt := by unfold linkTx; split <;> rfl
@[simp] theorem linkTx_a (s : State) : (linkTx s).a = s.a := by unfold linkTx; split <;> rfl
@[simp] theorem linkTx_d (s : State) : (linkTx s).d = s.d := by unfold linkTx; split <;> rfl
@[simp] theorem linkTx_lo (s : State) : (linkTx s).lo = s.lo := by unfold linkTx; split <;> rfl
@[simp] theorem linkTx_hi (s : State) : (linkTx s).hi = s.hi := by unfold linkTx; split <;> rfl
@[simp] theorem linkTx_txbuf (s : State) : (linkTx s).txbuf = s.txbuf := by unfold linkTx; split <;> rfl
@[simp] theorem linkTx_faults (s : State) : (linkTx s).faults = s.faults := by unfold linkTx; split <;> rfl
@[simp] theorem linkTx_refused (s : State) : (linkTx s).refused = s.refused := by unfold linkTx; split <;> rfl
@[simp] theorem linkTx_issuer (s : State) : (linkTx s).issuer = s.issuer := by unfold linkTx; split <;> rfl
@[simp] theorem linkTx_owner (s : State) : (linkTx s).owner = s.owner := by unfold linkTx; split <;> rfl
@[simp] theorem linkTx_results (s : State) : (linkTx s).results = s.results := by unfold linkTx; split <;> rfl
@[simp] theorem linkTx_agenda (s : State) : (linkTx s).agenda = s.agenda := by unfold linkTx; split <;> rfl
@[simp] theorem linkTx_draws (s : State) : (linkTx s).draws = s.draws := by unfold linkTx; split <;> rfl
@[simp] theorem linkTx_wrBusy (s : State) : (linkTx s).wrBusy = false := by unfold linkTx; split <;> simp_all
theorem linkTx_txlog (s : State) : (linkTx s).txlog = if s.wrBusy then s.txlog ++ [s.txbuf] else s.txlog := by
  unfold linkTx; split <;> rfl

@[simp] theorem State.afterTurn_cfg (s : State) : s.afterTurn.cfg = s.cfg := by unfold State.afterTurn; split <;> rfl
@[simp] theorem State.afterTurn_resetN (s : State) : s.afterTurn.resetN = s.resetN := by unfold State.afterTurn; split <;> rfl
@[simp] theorem State.afterTurn_enable (s : State) : s.afterTurn.enable = s.enable := by unfold State.afterTurn; split <;> rfl
@[simp] theorem State.afterTurn_wrBusy (s : State) : s.afterTurn.wrBusy = s.wrBusy := by unfold State.afterTurn; split <;> rfl
@[simp] theorem State.afterTurn_dataAvail (s : State) : s.afterTurn.dataAvail = s.dataAvail := by unfold State.afterTurn; split <;> rfl
@[simp] theorem State.afterTurn_wdh (s : State) : s.afterTurn.wdh = s.wdh := by unfold State.afterTurn; split <;> rfl
@[simp] theorem State.afterTurn_wdl (s : State) : s.afterTurn.wdl = s.wdl := by unfold State.afterTurn; split <;> rfl
@[simp] theorem State.afterTurn_rdh (s : State) : s.afterTurn.rdh = s.rdh := by unfold State.afterTurn; split <;> rfl
@[simp] theorem State.afterTurn_rdl (s : State) : s.afterTurn.rdl = s.rdl := by unfold State.afterTurn; split <;> rfl
@[simp] theorem State.afterTurn_phase (s : State) : s.afterTurn.phase = s.phase := by unfold State.afterTurn; split <;> rfl
@[simp] theorem State.afterTurn_sc (s : State) : s.afterTurn.sc = s.sc := by unfold State.afterTurn; split <;> rfl
@[simp] theorem State.afterTurn_pcnt (s : State) : s.afterTurn.pcnt = s.pcnt := by unfold State.afterTurn; split <;> rfl
@[simp] theorem State.afterTurn_a (s : State) : s.afterTurn.a = s.a := by unfold State.afterTurn; split <;> rfl
@[simp] theorem State.afterTurn_d (s : State) : s.afterTurn.d = s.d := by unfold State.afterTurn; split <;> rfl
@[simp] theorem State.afterTurn_lo (s : State) : s.afterTurn.lo = s.lo := by unfold State.afterTurn; split <;> rfl
@[simp] theorem State.afterTurn_hi (s : State) : s.afterTurn.hi = s.hi := by unfold State.afterTurn; split <;> rfl
@[simp] theorem State.afterTurn_txbuf (s : State) : s.afterTurn.txbuf = s.txbuf := by unfold State.afterTurn; split <;> rfl
@[simp] theorem State.afterTurn_txlog (s : State) : s.afterTurn.txlog = s.txlog := by unfold State.afterTurn; split <;> rfl
@[simp] theorem State.afterTurn_faults (s : State) : s.afterTurn.faults = s.faults := by unfold State.afterTurn; split <;> rfl
@[simp] theorem State.afterTurn_refused (s : State) : s.afterTurn.refused = s.refused := by unfold State.afterTurn; split <;> rfl
@[simp] theorem State.afterTurn_issuer (s : State) : s.afterTurn.issuer = s.issuer := by unfold State.afterTurn; split <;> rfl
@[simp] theorem State.afterTurn_owner (s : State) : s.afterTurn.owner = s.owner := by unfold State.afterTurn; split <;> rfl
@[simp] theorem State.afterTurn_results (s : State) : s.afterTurn.results = s.results := by unfold State.afterTurn; split <;> rfl

theorem State.turn_cons {s : State} {t : Turn} {rest : List Turn} (h : s.agenda = t :: rest) : s.turn = t := by
  simp [State.turn, h]

theorem State.afterTurn_cons {s : State} {t : Turn} {rest : List Turn} (h : s.agenda = t :: rest) :
    s.afterTurn = { s with agenda := rest } := by
  simp [State.afterTurn, h]

@[simp] theorem FaultSet.stopsFor_empty : FaultSet.empty.stopsFor = none := rfl

/-- A fault set stops the machine exactly when it holds a reason. -/
theorem FaultSet.stopsFor_eq_none {fs : FaultSet} : fs.stopsFor = none ↔ fs = FaultSet.empty := by
  obtain ⟨a, b⟩ := fs; cases a <;> cases b <;> decide

end Sys2Proof.Machine
end

