-- ==== Sys2Proof/Laws/Ops.lean ====
section
/-! SUPPORT. What each shared operation can do, said once: port writes, the guard on IDLE, CSR reads, the parameters. -/

namespace Sys2Proof.Machine

/-- A port write answers a state that keeps everything but the port, its status and the settle counter, or is the trigger
while busy. -/
theorem portWrite_cases {p : OutPort} {b : Byte} {s : State} :
    (p = .csr ∧ portWrite p b s = .ok (s.putControl b).openWindow) ∨
    (p = .wdh ∧ portWrite p b s = .ok (s.putWdh b).openWindow) ∨
    (p = .wdl ∧ s.wrBusy = false ∧ portWrite p b s = .ok (s.trigger b).openWindow) ∨
    (p = .wdl ∧ s.wrBusy = true ∧ portWrite p b s = .error .triggerWhileBusy) := by
  cases p <;> cases h : s.wrBusy <;> simp [portWrite, h]

theorem whenIdle_idle {s : State} {f : State → State} (h : s.phase = .idle) : whenIdle s f = .next (f s) := by
  simp [whenIdle, h]

theorem whenIdle_run {s : State} {f : State → State} {op : Txn} {k : Nat} (h : s.phase = .run op k) :
    whenIdle s f = .next (s.raise .reentry) := by
  simp [whenIdle, h]

theorem whenIdle_busy {s : State} {f : State → State} (h : s.phase ≠ .idle) :
    whenIdle s f = .next (s.raise .reentry) := by
  cases hp : s.phase with
  | idle => exact absurd hp h
  | run op k => exact whenIdle_run hp

/-- In IDLE, `phase <- IDLE` changes nothing. -/
theorem State.goto_idle_eq {s : State} (h : s.phase = .idle) : s.goto .idle = s := by
  cases s; simp_all [State.goto]

/-- The bits of `csr_value()` are the ones R112 builds it from. -/
theorem State.csrValue_getLsbD (s : State) (i : Nat) (h : i < 8) : s.csrValue.getLsbD i = s.csrBit i := by
  unfold State.csrValue
  rw [BitVec.getLsbD_ofBoolListLE]
  interval_cases i <;> rfl

/-- Where the settle window is closed, the status bits of a CSR read are true. -/
theorem State.csrBit_status {s : State} (h : s.sc = 0) (f : StatusBit) :
    s.csrBit f.index = match f with | .wrBusy => s.wrBusy | .dataAvail => s.dataAvail := by
  cases f <;> simp [State.csrBit, StatusBit.index, h]

theorem limitReached_eq_true {c : Config} {n : Nat} :
    limitReached c n = true ↔ ∃ l, c.pollLimit = some l ∧ l ≤ n := by
  unfold limitReached
  cases c.pollLimit <;> simp

theorem limitReached_eq_false {c : Config} {n : Nat} :
    limitReached c n = false ↔ ∀ l, c.pollLimit = some l → n < l := by
  unfold limitReached
  cases c.pollLimit <;> simp

/-- `n` no-operation cycles take `n` off the settle counter and change nothing else. -/
theorem State.settle_iterate (n : Nat) (s : State) : State.settle^[n] s = { s with sc := s.sc - n } := by
  induction n generalizing s with
  | zero => rfl
  | succ n ih => rw [Function.iterate_succ_apply, ih]; simp [State.settle, Nat.sub_sub, Nat.add_comm]

end Sys2Proof.Machine
end

