-- ==== Sys2Proof/Laws/Fsm.lean ====
section
/-! SUPPORT. What one FSM cycle can do: the cases of a poll and of a cycle, and what no cycle changes. -/

namespace Sys2Proof.Machine

/-- A poll waits out the settle window, or makes the CSR read of R120. -/
theorem poll_cases (f : StatusBit) (want : Bool) (s : State) :
    (0 < s.sc ∧ poll f want s = .wait s.settle) ∨
    (s.sc = 0 ∧ s.csrBit f.index = want ∧ poll f want s = .done (s.csrAccess.setPcnt 0)) ∨
    (s.sc = 0 ∧ s.csrBit f.index ≠ want ∧ limitReached s.cfg (s.pcnt + 1) = true ∧
      poll f want s = .timeout (s.csrAccess.setPcnt (s.pcnt + 1))) ∨
    (s.sc = 0 ∧ s.csrBit f.index ≠ want ∧ limitReached s.cfg (s.pcnt + 1) = false ∧
      poll f want s = .wait (s.csrAccess.setPcnt (s.pcnt + 1))) := by
  unfold poll
  by_cases h0 : 0 < s.sc
  · simp [h0]
  · by_cases h1 : s.csrBit f.index = want
    · simp [h0, h1]; omega
    · by_cases h2 : limitReached s.cfg (s.pcnt + 1) = true
      · simp [h0, h1, h2]; omega
      · simp [h0, h1, Bool.eq_false_iff.2 h2]; omega

/-- A cycle outside a transaction is an idle tick. -/
theorem fsmCycle_idle {s : State} (h : s.phase = .idle) : fsmCycle s = s.settle := by simp [fsmCycle, h]

theorem fsmCycle_run {s : State} {op : Txn} {k : Nat} (h : s.phase = .run op k) : fsmCycle s = runCycle op k s := by
  simp [fsmCycle, h]

theorem State.micro_run {s : State} {op : Txn} {k : Nat} (h : s.phase = .run op k) :
    s.micro = s.microOf op k := by simp [State.micro, h]

theorem advance_lt {op : Txn} {k : Nat} (h : k < op.length) (s : State) :
    advance op k s = s.goto (.run op (k + 1)) := by simp [advance, h]

theorem advance_last {op : Txn} {k : Nat} (h : ¬ k < op.length) (s : State) :
    advance op k s = (s.goto .idle).deliver s.owner (.ok (op.value s)) := by simp [advance, h]

/-! `advance` and `timeOut` change only `phase` and `results`. -/

@[simp] theorem advance_cfg (op : Txn) (k : Nat) (s : State) : (advance op k s).cfg = s.cfg := by
  unfold advance; split <;> rfl
@[simp] theorem advance_resetN (op : Txn) (k : Nat) (s : State) : (advance op k s).resetN = s.resetN := by
  unfold advance; split <;> rfl
@[simp] theorem advance_enable (op : Txn) (k : Nat) (s : State) : (advance op k s).enable = s.enable := by
  unfold advance; split <;> rfl
@[simp] theorem advance_wrBusy (op : Txn) (k : Nat) (s : State) : (advance op k s).wrBusy = s.wrBusy := by
  unfold advance; split <;> rfl
@[simp] theorem advance_dataAvail (op : Txn) (k : Nat) (s : State) : (advance op k s).dataAvail = s.dataAvail := by
  unfold advance; split <;> rfl
@[simp] theorem advance_wdh (op : Txn) (k : Nat) (s : State) : (advance op k s).wdh = s.wdh := by
  unfold advance; split <;> rfl
@[simp] theorem advance_wdl (op : Txn) (k : Nat) (s : State) : (advance op k s).wdl = s.wdl := by
  unfold advance; split <;> rfl
@[simp] theorem advance_rdh (op : Txn) (k : Nat) (s : State) : (advance op k s).rdh = s.rdh := by
  unfold advance; split <;> rfl
@[simp] theorem advance_rdl (op : Txn) (k : Nat) (s : State) : (advance op k s).rdl = s.rdl := by
  unfold advance; split <;> rfl
@[simp] theorem advance_sc (op : Txn) (k : Nat) (s : State) : (advance op k s).sc = s.sc := by
  unfold advance; split <;> rfl
@[simp] theorem advance_pcnt (op : Txn) (k : Nat) (s : State) : (advance op k s).pcnt = s.pcnt := by
  unfold advance; split <;> rfl
@[simp] theorem advance_a (op : Txn) (k : Nat) (s : State) : (advance op k s).a = s.a := by
  unfold advance; split <;> rfl
@[simp] theorem advance_d (op : Txn) (k : Nat) (s : State) : (advance op k s).d = s.d := by
  unfold advance; split <;> rfl
@[simp] theorem advance_lo (op : Txn) (k : Nat) (s : State) : (advance op k s).lo = s.lo := by
  unfold advance; split <;> rfl
@[simp] theorem advance_hi (op : Txn) (k : Nat) (s : State) : (advance op k s).hi = s.hi := by
  unfold advance; split <;> rfl
@[simp] theorem advance_txbuf (op : Txn) (k : Nat) (s : State) : (advance op k s).txbuf = s.txbuf := by
  unfold advance; split <;> rfl
@[simp] theorem advance_txlog (op : Txn) (k : Nat) (s : State) : (advance op k s).txlog = s.txlog := by
  unfold advance; split <;> rfl
@[simp] theorem advance_faults (op : Txn) (k : Nat) (s : State) : (advance op k s).faults = s.faults := by
  unfold advance; split <;> rfl
@[simp] theorem advance_refused (op : Txn) (k : Nat) (s : State) : (advance op k s).refused = s.refused := by
  unfold advance; split <;> rfl
@[simp] theorem advance_issuer (op : Txn) (k : Nat) (s : State) : (advance op k s).issuer = s.issuer := by
  unfold advance; split <;> rfl
@[simp] theorem advance_owner (op : Txn) (k : Nat) (s : State) : (advance op k s).owner = s.owner := by
  unfold advance; split <;> rfl
@[simp] theorem advance_agenda (op : Txn) (k : Nat) (s : State) : (advance op k s).agenda = s.agenda := by
  unfold advance; split <;> rfl
@[simp] theorem advance_draws (op : Txn) (k : Nat) (s : State) : (advance op k s).draws = s.draws := by
  unfold advance; split <;> rfl
@[simp] theorem timeOut_cfg (s : State) : (timeOut s).cfg = s.cfg := rfl
@[simp] theorem timeOut_resetN (s : State) : (timeOut s).resetN = s.resetN := rfl
@[simp] theorem timeOut_enable (s : State) : (timeOut s).enable = s.enable := rfl
@[simp] theorem timeOut_wrBusy (s : State) : (timeOut s).wrBusy = s.wrBusy := rfl
@[simp] theorem timeOut_dataAvail (s : State) : (timeOut s).dataAvail = s.dataAvail := rfl
@[simp] theorem timeOut_wdh (s : State) : (timeOut s).wdh = s.wdh := rfl
@[simp] theorem timeOut_wdl (s : State) : (timeOut s).wdl = s.wdl := rfl
@[simp] theorem timeOut_rdh (s : State) : (timeOut s).rdh = s.rdh := rfl
@[simp] theorem timeOut_rdl (s : State) : (timeOut s).rdl = s.rdl := rfl
@[simp] theorem timeOut_sc (s : State) : (timeOut s).sc = s.sc := rfl
@[simp] theorem timeOut_pcnt (s : State) : (timeOut s).pcnt = s.pcnt := rfl
@[simp] theorem timeOut_a (s : State) : (timeOut s).a = s.a := rfl
@[simp] theorem timeOut_d (s : State) : (timeOut s).d = s.d := rfl
@[simp] theorem timeOut_lo (s : State) : (timeOut s).lo = s.lo := rfl
@[simp] theorem timeOut_hi (s : State) : (timeOut s).hi = s.hi := rfl
@[simp] theorem timeOut_txbuf (s : State) : (timeOut s).txbuf = s.txbuf := rfl
@[simp] theorem timeOut_txlog (s : State) : (timeOut s).txlog = s.txlog := rfl
@[simp] theorem timeOut_faults (s : State) : (timeOut s).faults = s.faults := rfl
@[simp] theorem timeOut_refused (s : State) : (timeOut s).refused = s.refused := rfl
@[simp] theorem timeOut_issuer (s : State) : (timeOut s).issuer = s.issuer := rfl
@[simp] theorem timeOut_owner (s : State) : (timeOut s).owner = s.owner := rfl
@[simp] theorem timeOut_agenda (s : State) : (timeOut s).agenda = s.agenda := rfl
@[simp] theorem timeOut_draws (s : State) : (timeOut s).draws = s.draws := rfl
@[simp] theorem timeOut_phase (s : State) : (timeOut s).phase = .idle := rfl
@[simp] theorem timeOut_results (s : State) : (timeOut s).results = s.results ++ [(s.owner, .timeout)] := rfl

/-- The length of a micro-program is the number of micro-steps the spec lists. -/
theorem Txn.program_length (op : Txn) (c : Config) (a : RegAddr) (d : Word) :
    (op.program c a d).length = op.length := by cases op <;> rfl

/-- Inside the program there is a micro-step to take. -/
theorem State.microOf_isSome {op : Txn} {s : State} {k : Nat} (h1 : 1 ≤ k) (h2 : k ≤ op.length) :
    ∃ m, s.microOf op k = some m := by
  obtain ⟨j, rfl⟩ : ∃ j, k = j + 1 := ⟨k - 1, by omega⟩
  have : j < (op.program s.cfg s.a s.d).length := by rw [Txn.program_length]; omega
  exact ⟨(op.program s.cfg s.a s.d)[j], by simp [State.microOf, microAt, this]⟩

/-- The micro-step at an index depends only on the parameters and the latched operands. -/
theorem State.microOf_congr {s t : State} (hc : t.cfg = s.cfg) (ha : t.a = s.a) (hd : t.d = s.d) (op : Txn) (k : Nat) :
    t.microOf op k = s.microOf op k := by
  simp [State.microOf, hc, ha, hd]

/-- The micro-steps of the four programs, index by index. -/
theorem State.microOf_eq (s : State) (op : Txn) (k : Nat) :
    s.microOf op k = match op, k with
      | .regRead, 1 => some (.wr .wdh (cmdRead s.cfg s.a))
      | .regRead, 2 => some (.poll .wrBusy false)
      | .regRead, 3 => some (.wr .wdl 0)
      | .regRead, 4 => some (.poll .wrBusy false)
      | .regRead, 5 => some (.poll .dataAvail true)
      | .regRead, 6 => some (.wr .wdh 0)
      | .regRead, 7 => some (.wr .wdl 0)
      | .regRead, 8 => some (.rd .rdl)
      | .regRead, 9 => some (.rd .rdh)
      | .regWrite, 1 => some (.wr .wdh (cmdWrite s.cfg s.a))
      | .regWrite, 2 => some (.poll .wrBusy false)
      | .regWrite, 3 => some (.wr .wdl (lowByte s.d))
      | .regWrite, 4 => some (.poll .wrBusy false)
      | .regWrite, 5 => some (.poll .wrBusy false)
      | .regWrite, 6 => some (.wr .wdh 0)
      | .regWrite, 7 => some (.wr .wdl 0)
      | .sampleRead, 1 => some (.poll .dataAvail true)
      | .sampleRead, 2 => some (.rd .rdh)
      | .sampleRead, 3 => some (.rd .rdl)
      | .sampleWrite, 1 => some (.poll .wrBusy false)
      | .sampleWrite, 2 => some (.wr .wdh (highByte s.d))
      | .sampleWrite, 3 => some (.wr .wdl (sampleLow s.d))
      | _, _ => none := by
  cases op <;> rcases k with _ | _ | _ | _ | _ | _ | _ | _ | _ | _ | k <;> rfl

/-- Everything one cycle of a transaction can do. -/
theorem runCycle_cases (op : Txn) (k : Nat) (s : State) :
    (s.microOf op k = none ∧ runCycle op k s = s) ∨
    (∃ p b s', s.microOf op k = some (.wr p b) ∧ portWrite p b s = .ok s' ∧
      runCycle op k s = advance op k s') ∨
    (∃ b, s.microOf op k = some (.wr .wdl b) ∧ s.wrBusy = true ∧
      runCycle op k s = s.raise .triggerWhileBusy) ∨
    (∃ p, s.microOf op k = some (.rd p) ∧ runCycle op k s = advance op k (s.capture p).openWindow) ∨
    (∃ f want, s.microOf op k = some (.poll f want) ∧
      ((0 < s.sc ∧ runCycle op k s = s.settle) ∨
       (s.sc = 0 ∧ s.csrBit f.index = want ∧ runCycle op k s = advance op k (s.csrAccess.setPcnt 0)) ∨
       (s.sc = 0 ∧ s.csrBit f.index ≠ want ∧ limitReached s.cfg (s.pcnt + 1) = true ∧
         runCycle op k s = timeOut (s.csrAccess.setPcnt (s.pcnt + 1))) ∨
       (s.sc = 0 ∧ s.csrBit f.index ≠ want ∧ limitReached s.cfg (s.pcnt + 1) = false ∧
         runCycle op k s = s.csrAccess.setPcnt (s.pcnt + 1)))) := by
  unfold runCycle
  cases hm : s.microOf op k with
  | none => simp
  | some m =>
    cases m with
    | wr p b =>
      obtain ⟨rfl, e⟩ | ⟨rfl, e⟩ | ⟨rfl, hb, e⟩ | ⟨rfl, hb, e⟩ := portWrite_cases (p := p) (b := b) (s := s)
      · exact .inr (.inl ⟨_, _, _, rfl, e, by simp [microStep, e]⟩)
      · exact .inr (.inl ⟨_, _, _, rfl, e, by simp [microStep, e]⟩)
      · exact .inr (.inl ⟨_, _, _, rfl, e, by simp [microStep, e]⟩)
      · exact .inr (.inr (.inl ⟨_, rfl, hb, by simp [microStep, e]⟩))
    | rd p => exact .inr (.inr (.inr (.inl ⟨p, rfl, by simp [microStep]⟩)))
    | poll f want =>
      refine .inr (.inr (.inr (.inr ⟨f, want, rfl, ?_⟩)))
      obtain ⟨h, e⟩ | ⟨h, h', e⟩ | ⟨h, h', h'', e⟩ | ⟨h, h', h'', e⟩ := poll_cases f want s
      · exact .inl ⟨h, by simp [microStep, e]⟩
      · exact .inr (.inl ⟨h, h', by simp [microStep, e]⟩)
      · exact .inr (.inr (.inl ⟨h, h', h'', by simp [microStep, e]⟩))
      · exact .inr (.inr (.inr ⟨h, h', h'', by simp [microStep, e]⟩))

/-- What a port write never changes. -/
theorem portWrite_frame {p : OutPort} {b : Byte} {s s' : State} (h : portWrite p b s = .ok s') :
    s'.cfg = s.cfg ∧ s'.dataAvail = s.dataAvail ∧ s'.rdh = s.rdh ∧ s'.rdl = s.rdl ∧ s'.phase = s.phase ∧
      s'.pcnt = s.pcnt ∧ s'.a = s.a ∧ s'.d = s.d ∧ s'.lo = s.lo ∧ s'.hi = s.hi ∧ s'.txlog = s.txlog ∧
      s'.faults = s.faults ∧ s'.refused = s.refused ∧ s'.issuer = s.issuer ∧ s'.owner = s.owner ∧
      s'.results = s.results ∧ s'.agenda = s.agenda ∧ s'.draws = s.draws ∧ s'.sc = s.cfg.nSettle := by
  obtain ⟨-, e⟩ | ⟨-, e⟩ | ⟨-, -, e⟩ | ⟨-, -, e⟩ := portWrite_cases (p := p) (b := b) (s := s) <;>
    rw [e] at h <;> simp at h <;> subst h <;> simp

/-- What no FSM cycle changes: the parameters, DATA_AVAIL, RDH, RDL and the words sent, which are the link's; the latched
operands; the refusal mark; the callers and the agenda. -/
theorem fsmCycle_frame (s : State) :
    (fsmCycle s).cfg = s.cfg ∧ (fsmCycle s).dataAvail = s.dataAvail ∧ (fsmCycle s).rdh = s.rdh ∧
      (fsmCycle s).rdl = s.rdl ∧ (fsmCycle s).a = s.a ∧ (fsmCycle s).d = s.d ∧ (fsmCycle s).txlog = s.txlog ∧
      (fsmCycle s).refused = s.refused ∧ (fsmCycle s).issuer = s.issuer ∧ (fsmCycle s).owner = s.owner ∧
      (fsmCycle s).agenda = s.agenda := by
  cases hp : s.phase with
  | idle => simp [fsmCycle_idle hp]
  | run op k =>
    rw [fsmCycle_run hp]
    obtain ⟨-, e⟩ | ⟨p, b, s', -, hw, e⟩ | ⟨b, -, -, e⟩ | ⟨p, -, e⟩ |
      ⟨f, w, -, ⟨-, e⟩ | ⟨-, -, e⟩ | ⟨-, -, -, e⟩ | ⟨-, -, -, e⟩⟩ := runCycle_cases op k s <;> rw [e]
    · simp
    · have := portWrite_frame hw
      simp [this]
    all_goals simp

end Sys2Proof.Machine
end

