-- ==== Sys2Proof/Laws/Exec.lean ====
section
/-! SUPPORT. What an accepted command can do, said once for all fifteen operations. -/

namespace Sys2Proof.Machine

/-- The effects of an accepted command, `ExecEffect s i t`: running `i` from `s` may end in `t`. -/
inductive ExecEffect (s : State) : Instr → State → Prop
  /-- An operation of the FSM outside IDLE. -/
  | reentry {i : Instr} (h : s.phase ≠ .idle) (ht : ¬ IsTransform i) : ExecEffect s i (s.raise .reentry)
  /-- A transform, in any phase. -/
  | transform {i : Instr} {v : Value} (ht : IsTransform i) : ExecEffect s i (s.deliver s.issuer (.ok v))
  /-- CSR_WR of a reserved byte, in any phase. -/
  | reserved {b : Byte} (hb : ¬ CsrByteOk b) : ExecEffect s (.csrWr b) s.refuse
  | nop (h : s.phase = .idle) : ExecEffect s .nop s.settle
  | csrRd (h : s.phase = .idle) : ExecEffect s .csrRd (s.csrAccess.deliver s.issuer (.ok (.u8 s.csrValue)))
  | csrWr {b : Byte} (h : s.phase = .idle) (hb : CsrByteOk b) : ExecEffect s (.csrWr b) (s.putControl b).openWindow
  | wdhWr {b : Byte} (h : s.phase = .idle) : ExecEffect s (.wdhWr b) (s.putWdh b).openWindow
  | wdlWr {b : Byte} (h : s.phase = .idle) (hb : s.wrBusy = false) : ExecEffect s (.wdlWr b) (s.trigger b).openWindow
  | wdlBusy {b : Byte} (h : s.phase = .idle) (hb : s.wrBusy = true) :
      ExecEffect s (.wdlWr b) (s.raise .triggerWhileBusy)
  | rdhRd (h : s.phase = .idle) : ExecEffect s .rdhRd (s.openWindow.deliver s.issuer (.ok (.u8 s.rdh)))
  | rdlRd (h : s.phase = .idle) : ExecEffect s .rdlRd (s.openWindow.deliver s.issuer (.ok (.u8 s.rdl)))
  | regRead {a : RegAddr} (h : s.phase = .idle) : ExecEffect s (.regRead a) (runCycle .regRead 1 (s.latch .regRead a 0))
  | regWrite {a : RegAddr} {d : Word} (h : s.phase = .idle) :
      ExecEffect s (.regWrite a d) (runCycle .regWrite 1 (s.latch .regWrite a d))
  | sampleRead (h : s.phase = .idle) : ExecEffect s .sampleRead (runCycle .sampleRead 1 (s.latch .sampleRead 0 0))
  | sampleWrite {d : Word} (h : s.phase = .idle) :
      ExecEffect s (.sampleWrite d) (runCycle .sampleWrite 1 (s.latch .sampleWrite 0 d))

/-- The start of a transaction is the first cycle of its program. -/
theorem start_eq (op : Txn) (a : RegAddr) (d : Word) (s : State) : start op a d s = runCycle op 1 (s.latch op a d) :=
  rfl

/-- A guarded operation's next state is its own effect from IDLE, or the Reentry fault. -/
theorem whenIdle_next {s t : State} {f : State → State} (h : whenIdle s f = .next t) :
    (s.phase = .idle ∧ t = f s) ∨ (s.phase ≠ .idle ∧ t = s.raise .reentry) := by
  by_cases hp : s.phase = .idle
  · rw [whenIdle_idle hp, Host.Outcome.next.injEq] at h; exact .inl ⟨hp, h.symm⟩
  · rw [whenIdle_busy hp, Host.Outcome.next.injEq] at h; exact .inr ⟨hp, h.symm⟩

/-- A command answers one of the effects. -/
theorem exec_effect {i : Instr} {s t : State} (h : exec i s = .next t) : ExecEffect s i t := by
  cases i with
  | encUlaw | decUlaw | encAlaw | decAlaw =>
    simp only [exec, execEncUlaw, execDecUlaw, execEncAlaw, execDecAlaw, execTransform, Host.Outcome.next.injEq] at h
    subst h; exact .transform trivial
  | nop =>
    simp only [exec, execNop] at h
    obtain ⟨hp, rfl⟩ | ⟨hp, rfl⟩ := whenIdle_next h
    · rw [State.goto_idle_eq (by simpa using hp)]; exact .nop hp
    · exact .reentry hp not_false
  | csrRd =>
    simp only [exec, execCsrRd] at h
    obtain ⟨hp, rfl⟩ | ⟨hp, rfl⟩ := whenIdle_next h
    · rw [State.goto_idle_eq (by simpa using hp)]; exact .csrRd hp
    · exact .reentry hp not_false
  | csrWr b =>
    simp only [exec, execCsrWr, execWrite] at h
    split at h
    · rename_i hb
      obtain ⟨hp, rfl⟩ | ⟨hp, rfl⟩ := whenIdle_next h
      · simp only [portWrite]; rw [State.goto_idle_eq (by simpa using hp)]; exact .csrWr hp hb
      · exact .reentry hp not_false
    · rename_i hb
      rw [Host.Outcome.next.injEq] at h; subst h; exact .reserved hb
  | wdhWr b =>
    simp only [exec, execWdhWr, execWrite] at h
    obtain ⟨hp, rfl⟩ | ⟨hp, rfl⟩ := whenIdle_next h
    · simp only [portWrite]; rw [State.goto_idle_eq (by simpa using hp)]; exact .wdhWr hp
    · exact .reentry hp not_false
  | wdlWr b =>
    simp only [exec, execWdlWr, execWrite] at h
    obtain ⟨hp, rfl⟩ | ⟨hp, rfl⟩ := whenIdle_next h
    · cases hb : s.wrBusy with
      | false =>
        simp only [portWrite, hb, Bool.false_eq_true, if_false]
        rw [State.goto_idle_eq (by simpa using hp)]; exact .wdlWr hp hb
      | true => simp only [portWrite, hb, if_true]; exact .wdlBusy hp hb
    · exact .reentry hp not_false
  | rdhRd =>
    simp only [exec, execRdhRd, execRead, portValue] at h
    obtain ⟨hp, rfl⟩ | ⟨hp, rfl⟩ := whenIdle_next h
    · rw [State.goto_idle_eq (by simpa using hp)]; exact .rdhRd hp
    · exact .reentry hp not_false
  | rdlRd =>
    simp only [exec, execRdlRd, execRead, portValue] at h
    obtain ⟨hp, rfl⟩ | ⟨hp, rfl⟩ := whenIdle_next h
    · rw [State.goto_idle_eq (by simpa using hp)]; exact .rdlRd hp
    · exact .reentry hp not_false
  | regRead a =>
    simp only [exec, execRegRead, start_eq] at h
    obtain ⟨hp, rfl⟩ | ⟨hp, rfl⟩ := whenIdle_next h
    · exact .regRead hp
    · exact .reentry hp not_false
  | regWrite a d =>
    simp only [exec, execRegWrite, start_eq] at h
    obtain ⟨hp, rfl⟩ | ⟨hp, rfl⟩ := whenIdle_next h
    · exact .regWrite hp
    · exact .reentry hp not_false
  | sampleRead =>
    simp only [exec, execSampleRead, start_eq] at h
    obtain ⟨hp, rfl⟩ | ⟨hp, rfl⟩ := whenIdle_next h
    · exact .sampleRead hp
    · exact .reentry hp not_false
  | sampleWrite d =>
    simp only [exec, execSampleWrite, start_eq] at h
    obtain ⟨hp, rfl⟩ | ⟨hp, rfl⟩ := whenIdle_next h
    · exact .sampleWrite hp
    · exact .reentry hp not_false

end Sys2Proof.Machine
end

