-- ==== Sys2Proof/Laws/PerInstr.lean ====
section
/-! SUPPORT. The family `CommandFields`, about every operation as a term: its command word carries its `OP` value, a zero
`RSV` field and its operand fields, each in the bits 30_encoding.md R70 gives it. -/

namespace Sys2Proof.Laws

/-- The four fields of the command word of `i`. -/
def CommandFields.Statement (i : Instr) : Prop :=
  (encode i).op = opcode i ∧ (encode i).rsv = 0 ∧ (encode i).fieldA = encodeA i ∧ (encode i).fieldD = encodeD i

/-- The fields of a word put together from its four parts. -/
theorem commandWord_fields (o : BitVec 4) (a : Byte) (d : Word) :
    CmdWord.op (o ++ (0 : BitVec 4) ++ a ++ d) = o ∧ CmdWord.rsv (o ++ (0 : BitVec 4) ++ a ++ d) = 0 ∧
      CmdWord.fieldA (o ++ (0 : BitVec 4) ++ a ++ d) = a ∧ CmdWord.fieldD (o ++ (0 : BitVec 4) ++ a ++ d) = d := by
  refine ⟨?_, ?_, ?_, ?_⟩ <;> ext j hj <;>
    simp only [CmdWord.op, CmdWord.rsv, CmdWord.fieldA, CmdWord.fieldD, BitVec.getElem_extractLsb', BitVec.getLsbD_append] <;>
    simp <;> grind

theorem CommandFields.nop : CommandFields.Statement .nop := commandWord_fields _ _ _
theorem CommandFields.regRead (a : RegAddr) : CommandFields.Statement (.regRead a) := commandWord_fields _ _ _
theorem CommandFields.regWrite (a : RegAddr) (d : Word) : CommandFields.Statement (.regWrite a d) := commandWord_fields _ _ _
theorem CommandFields.sampleRead : CommandFields.Statement .sampleRead := commandWord_fields _ _ _
theorem CommandFields.sampleWrite (d : Word) : CommandFields.Statement (.sampleWrite d) := commandWord_fields _ _ _
theorem CommandFields.encUlaw (pcm : Word) : CommandFields.Statement (.encUlaw pcm) := commandWord_fields _ _ _
theorem CommandFields.decUlaw (code : Byte) : CommandFields.Statement (.decUlaw code) := commandWord_fields _ _ _
theorem CommandFields.encAlaw (pcm : Word) : CommandFields.Statement (.encAlaw pcm) := commandWord_fields _ _ _
theorem CommandFields.decAlaw (code : Byte) : CommandFields.Statement (.decAlaw code) := commandWord_fields _ _ _
theorem CommandFields.csrRd : CommandFields.Statement .csrRd := commandWord_fields _ _ _
theorem CommandFields.csrWr (b : Byte) : CommandFields.Statement (.csrWr b) := commandWord_fields _ _ _
theorem CommandFields.wdhWr (b : Byte) : CommandFields.Statement (.wdhWr b) := commandWord_fields _ _ _
theorem CommandFields.wdlWr (b : Byte) : CommandFields.Statement (.wdlWr b) := commandWord_fields _ _ _
theorem CommandFields.rdhRd : CommandFields.Statement .rdhRd := commandWord_fields _ _ _
theorem CommandFields.rdlRd : CommandFields.Statement .rdlRd := commandWord_fields _ _ _

end Sys2Proof.Laws
end

