-- ==== Sys2Proof/Laws/Step.lean ====
section
/-! SUPPORT. What a step can do: every meaning answers a next state, and the cases of a step. -/

namespace Sys2Proof.Machine

/-- The cases of a step that answers a next state: the machine is not quiescent, and one agent moved. -/
theorem step_cases {s t : State} (h : step s = .next t) :
    s.faults.stopsFor = none ∧
    ((s.turn = .fsm ∧ t = fsmCycle s.afterTurn) ∨
     (s.turn = .linkTx ∧ t = linkTx s.afterTurn) ∨
     (∃ w, s.turn = .linkRx w ∧ t = linkRx w s.afterTurn) ∨
     (s.turn = .linkAvClr ∧ t = linkAvClr s.afterTurn) ∨
     (∃ acc, s.turn = .wrongDirection acc ∧ t = s.afterTurn.refuse) ∨
     (∃ c w, s.turn = .present c w ∧ ¬ s.afterTurn.MayPresent c ∧ t = s.afterTurn) ∨
     (∃ c w e, s.turn = .present c w ∧ s.afterTurn.MayPresent c ∧ decode w = .error e ∧ t = s.afterTurn.refuse) ∨
     (∃ c w i, s.turn = .present c w ∧ s.afterTurn.MayPresent c ∧ decode w = .ok i ∧
       exec i (s.afterTurn.issue c) = .next t)) := by
  unfold step scheduled at h
  cases hf : s.faults.stopsFor with
  | some f => simp [hf] at h
  | none =>
    refine ⟨rfl, ?_⟩
    simp only [hf] at h
    cases ht : s.turn with
    | fsm => simp [ht, takeTurn] at h; simp [h]
    | linkTx => simp [ht, takeTurn] at h; simp [h]
    | linkRx w => simp [ht, takeTurn] at h; simp [h]
    | linkAvClr => simp [ht, takeTurn] at h; simp [h]
    | wrongDirection acc => simp [ht, takeTurn] at h; simp [h]
    | present c w =>
      simp only [ht, takeTurn, presentCommand] at h
      by_cases hc : s.afterTurn.MayPresent c
      · rw [if_pos hc] at h
        cases hd : decode w with
        | ok i =>
          simp only [hd] at h
          exact .inr (.inr (.inr (.inr (.inr (.inr (.inr ⟨c, w, i, rfl, hc, hd, h⟩))))))
        | error e =>
          simp only [hd, Host.Outcome.next.injEq] at h
          exact .inr (.inr (.inr (.inr (.inr (.inr (.inl ⟨c, w, e, rfl, hc, hd, h.symm⟩))))))
      · rw [if_neg hc] at h
        simp only [Host.Outcome.next.injEq] at h
        exact .inr (.inr (.inr (.inr (.inr (.inl ⟨c, w, rfl, hc, h.symm⟩)))))

/-- A step of a machine with no fault, whose next move is chosen. -/
theorem step_cons {s : State} (hf : s.NoFault) {t : Turn} {rest : List Turn} (h : s.agenda = t :: rest) :
    step s = takeTurn t { s with agenda := rest } := by
  have e : s.faults.stopsFor = none := by rw [hf]; rfl
  simp only [step, scheduled, e, State.turn_cons h, State.afterTurn_cons h]

/-- A run whose first step answers a next state. -/
theorem runFor_succ {s t : State} {n : Nat} (h : step s = .next t) : runFor (n + 1) s = runFor n t := by
  simp only [runFor, h]

/-- Runs compose. -/
theorem runFor_add {m n : Nat} {s t : State} (h : runFor m s = .next t) : runFor (m + n) s = runFor n t := by
  induction m generalizing s with
  | zero => simp only [runFor, Host.Outcome.next.injEq] at h; simp [h]
  | succ m ih =>
    rw [Nat.succ_add]
    simp only [runFor] at h ⊢
    cases hs : step s with
    | next s' => simp only [hs] at h ⊢; exact ih h
    | fault r => simp [hs] at h
    | refused r => simp [hs] at h

/-- An infinite run of `step` is a run in the sense of `IsRun`, under the turns its states give. -/
theorem isRun_of_steps {r : Nat → State} (h : ∀ n, step (r n) = .next (r (n + 1))) : IsRun (fun n => (r n).turn) r := by
  intro n
  have hn := h n
  unfold step scheduled at hn
  cases hf : (r n).faults.stopsFor with
  | some f => simp [hf] at hn
  | none =>
    simp only [hf] at hn
    refine ⟨FaultSet.stopsFor_eq_none.mp hf, (r n).afterTurn.agenda, (r n).afterTurn.draws, ?_⟩
    have e : { r n with agenda := (r n).afterTurn.agenda, draws := (r n).afterTurn.draws } = (r n).afterTurn := by
      unfold State.afterTurn; split <;> rfl
    rw [e]; exact hn

/-- `runFor` is the host's run of the machine. -/
theorem core_run_eq (n : Nat) (s : State) : Host.Core.run Sys2Proof.core n s = runFor n s := by
  induction n generalizing s with
  | zero => rfl
  | succ n ih =>
    cases h : step s with
    | next t =>
      have h' : Sys2Proof.core.step s = .next t := h
      simp only [Host.Core.run, runFor, h, h', ih]; rfl
    | fault f =>
      have h' : Sys2Proof.core.step s = .fault f := h
      simp only [Host.Core.run, runFor, h, h']; rfl
    | refused r =>
      have h' : Sys2Proof.core.step s = .refused r := h
      simp only [Host.Core.run, runFor, h, h']; rfl

end Sys2Proof.Machine
end

