-- ==== Sys2Proof/Tests/Slice0.lean ====
section
/-! SUPPORT. The model's own tests: ill-formed terms, words and vectors of spec/95_test_vectors.md, and for every
obligation with hypotheses a witness that meets them. Expected values come from the tables of that file. -/

namespace Sys2Proof.Machine

/-! ### Well-formedness: every operand but the byte of CSR_WR is bounded by its type -/

/-- P-7: bit 2. -/
theorem test_illFormed_csrWr_bit2 : ¬ (Instr.csrWr 0x86).WellFormed := by decide
/-- P-8: bit 0. -/
theorem test_illFormed_csrWr_bit0 : ¬ (Instr.csrWr 0x01).WellFormed := by decide
theorem test_illFormed_csrWr_bit6 : ¬ (Instr.csrWr 0x40).WellFormed := by decide
theorem test_wellFormed_csrWr : (Instr.csrWr 0x82).WellFormed := by decide

/-! ### Decoding: a word of each operation, V1 to V3, and the refused words of V3 -/

theorem test_decode_nop : decode 0x00000000 = .ok .nop := rfl
theorem test_decode_regRead : decode 0x10050000 = .ok (.regRead 5) := rfl
theorem test_decode_regWrite : decode 0x200512A7 = .ok (.regWrite 5 0x12A7) := rfl
theorem test_decode_regWrite_highA : decode 0x20A512A7 = .ok (.regWrite 5 0x12A7) := rfl
theorem test_decode_sampleRead : decode 0x30000000 = .ok .sampleRead := rfl
theorem test_decode_sampleWrite : decode 0x4000FFFF = .ok (.sampleWrite 0xFFFF) := rfl
theorem test_decode_encUlaw : decode 0x5000FC18 = .ok (.encUlaw 0xFC18) := rfl
theorem test_decode_decUlaw : decode 0x600000CE = .ok (.decUlaw 0xCE) := rfl
theorem test_decode_encAlaw : decode 0x7000FC19 = .ok (.encAlaw 0xFC19) := rfl
theorem test_decode_decAlaw : decode 0x800000FA = .ok (.decAlaw 0xFA) := rfl
theorem test_decode_csrRd : decode 0x90000000 = .ok .csrRd := rfl
theorem test_decode_csrWr : decode 0xA0000082 = .ok (.csrWr 0x82) := rfl
theorem test_decode_wdhWr : decode 0xB0000012 = .ok (.wdhWr 0x12) := rfl
theorem test_decode_wdlWr : decode 0xC0000035 = .ok (.wdlWr 0x35) := rfl
theorem test_decode_rdhRd : decode 0xD0000000 = .ok .rdhRd := rfl
theorem test_decode_rdlRd : decode 0xE0000000 = .ok .rdlRd := rfl
theorem test_refused_W4 : decode 0x10050001 = .error .fieldD := rfl
theorem test_refused_W6 : decode 0x30010000 = .error .fieldA := rfl
theorem test_refused_W9 : decode 0x600001CE = .error .fieldD := rfl
theorem test_refused_W11 : decode 0x01000000 = .error .rsv := rfl
theorem test_refused_W12 : decode 0xF0000000 = .error .op := rfl
theorem test_refused_W14 : decode 0xB0000112 = .error .fieldD := rfl
theorem test_refused_P7 : decode 0xA0000086 = .error .csrBits := rfl

/-- E-1, E-6, E-9: command bytes. -/
theorem test_commandBytes :
    cmdWrite Config.reference 5 = 0x85 ∧ cmdRead Config.reference 31 = 0xBF ∧
      cmdRead { Config.reference with cmdStrobe := .bit6, cmdRead := some .bit7 } 5 = 0xC5 := by decide

/-! ### Steps -/

/-- The start state of V1: IDLE, with RESET_N and ENABLE set. -/
def idleState : State := { State.reset with resetN := true, enable := true }

/-- A state in micro-step `k` of `op`. -/
def inStep (op : Txn) (k : Nat) : State := { idleState with phase := .run op k }

/-- A claim about the next state of an outcome; false of a stop. -/
def nextHas (P : State → Prop) (o : Host.Outcome State Fault Refusal) : Prop :=
  match o with
  | .next t => P t
  | .fault _ => False
  | .refused _ => False

/-- P-15, and P-16. -/
theorem test_nop : nextHas (fun t => t.sc = 1) (exec .nop { idleState with sc := 2 }) := rfl
theorem test_nop_closed : nextHas (fun t => t = idleState) (exec .nop idleState) := rfl

/-- P-1: bits 7, 3, 2 and 1 of the CSR. -/
theorem test_csrRd : ∀ s, s = { idleState with dataAvail := true } →
    s.csrValue.getLsbD 7 = true ∧ s.csrValue.getLsbD 3 = true ∧ s.csrValue.getLsbD 2 = false ∧
      s.csrValue.getLsbD 1 = true := by
  rintro s rfl
  simp only [State.csrValue_getLsbD _ _ (by decide : 7 < 8), State.csrValue_getLsbD _ _ (by decide : 3 < 8),
    State.csrValue_getLsbD _ _ (by decide : 2 < 8), State.csrValue_getLsbD _ _ (by decide : 1 < 8)]
  decide
/-- P-1: the settle window opens. -/
theorem test_csrRd_window : nextHas (fun t => t.sc = 2) (exec .csrRd idleState) := rfl

/-- P-5, and P-7. -/
theorem test_csrWr : nextHas (fun t => t.resetN = false ∧ t.enable = true) (exec (.csrWr 0x02) idleState) := ⟨rfl, rfl⟩
theorem test_csrWr_reserved : nextHas (fun t => t.refused = true ∧ t.resetN = true)
    (exec (.csrWr 0x86) idleState) := ⟨rfl, rfl⟩

/-- P-9. -/
theorem test_wdhWr : nextHas (fun t => t.wdh = 0x12 ∧ t.txbuf = 0xABCD ∧ t.wrBusy = true)
    (exec (.wdhWr 0x12) { idleState with wrBusy := true, txbuf := 0xABCD }) := ⟨rfl, rfl, rfl⟩

/-- P-10, and P-11. -/
theorem test_wdlWr : nextHas (fun t => t.wdl = 0x35 ∧ t.txbuf = 0x1235 ∧ t.wrBusy = true)
    (exec (.wdlWr 0x35) { idleState with wdh := 0x12 }) := ⟨rfl, rfl, rfl⟩
theorem test_wdlWr_busy : nextHas (fun t => t.faults = ⟨true, false⟩ ∧ t.wdl = 0 ∧ t.txbuf = 0)
    (exec (.wdlWr 0x35) { idleState with wrBusy := true }) := ⟨rfl, rfl, rfl⟩

/-- P-13, P-14: after `L_RX(0xBEEF)`. -/
theorem test_rdhRd : nextHas (fun t => t.results = [(0, .ok (.u8 0xBE))] ∧ t.dataAvail = true)
    (exec .rdhRd (linkRx 0xBEEF idleState)) := ⟨rfl, rfl⟩
theorem test_rdlRd : nextHas (fun t => t.results = [(0, .ok (.u8 0xEF))]) (exec .rdlRd (linkRx 0xBEEF idleState)) := rfl

/-- P1, cycle 1, and T-8: a second caller's command in step 4 of REG_WRITE. -/
theorem test_regWrite : nextHas (fun t => t.wdh = 0x85 ∧ t.sc = 2) (exec (.regWrite 5 0x12A7) idleState) := ⟨rfl, rfl⟩
theorem test_reentry : nextHas (fun t => t.faults = ⟨false, true⟩)
    (step { inStep .regWrite 4 with cfg := { Config.reference with nCallers := 2 }, agenda := [.present 1 0x10050000] }) :=
  rfl

/-- P1, cycle 14, and cycle 28 (the composition of R127). -/
theorem test_regRead : nextHas (fun t => t.wdh = 0xA5) (exec (.regRead 5) idleState) := rfl
theorem test_regRead_last :
    (fsmCycle { inStep .regRead 9 with lo := 0xA7 }).results = [(0, .ok (.u16 0x00A7))] := rfl

/-- P2, cycle 1, and S-12: the low byte of the later word. -/
theorem test_sampleRead : nextHas (fun t => t.phase = .run .sampleRead 2)
    (exec .sampleRead { idleState with dataAvail := true }) := rfl
theorem test_sampleRead_last :
    (fsmCycle { inStep .sampleRead 3 with hi := 0x11, rdl := 0x22 }).results = [(0, .ok (.u16 0x1122))] := rfl

/-- S-3, and S-8: the first cycle only settles. -/
theorem test_sampleWrite_last : (fsmCycle { inStep .sampleWrite 3 with d := 0xFFFF, wdh := 0xFF }).txbuf = 0xFFFE := rfl
theorem test_sampleWrite : nextHas (fun t => t.phase = .run .sampleWrite 1 ∧ t.sc = 1)
    (exec (.sampleWrite 0x1234) { idleState with sc := 2 }) := ⟨rfl, rfl⟩

/-- S-13 and T-3: the read that reaches the limit. -/
theorem test_timeout :
    (fsmCycle { inStep .sampleRead 1 with cfg := { Config.reference with pollLimit := some 2 }, pcnt := 1 }).results =
      [(0, .timeout)] := rfl

/-- V6. -/
theorem test_encUlaw : encodeUlaw 0xFC18 = 0x4E ∧ encodeUlaw 0xFFFB = 0x7E ∧ encodeUlaw 0xFFF7 = 0x7D ∧
    encodeUlaw 0x007C = 0xEF := by decide
theorem test_encUlaw_saturation : encodeUlaw 0x7F7C = 0x80 ∧ encodeUlaw 0x8000 = 0x00 := by decide
/-- V7. -/
theorem test_decUlaw : decodeUlaw 0x4E = 0xFC24 ∧ decodeUlaw 0x00 = 0x8284 ∧ decodeUlaw 0x7F = 0 := by decide
/-- V8. -/
theorem test_encAlaw : encodeAlaw 0xFC19 = 0x7B ∧ encodeAlaw 0xFFFF = 0xD5 ∧ encodeAlaw 0x0100 = 0xC5 := by decide
theorem test_encAlaw_ends : encodeAlaw 0x7FFF = 0xAA ∧ encodeAlaw 0x8000 = 0x2A ∧ encodeAlaw 0x0200 = 0xF5 := by decide
/-- V9. -/
theorem test_decAlaw : decodeAlaw 0xFA = 0x03F0 ∧ decodeAlaw 0xD5 = 8 ∧ decodeAlaw 0xC5 = 0x0108 ∧
    decodeAlaw 0x00 = 0xEA80 := by decide

/-- T-9: a transform during another caller's transaction. -/
theorem test_transform_while_busy : nextHas (fun t => t.results = [(1, .ok (.u8 0xFF))] ∧ t.phase = .run .regWrite 4)
    (step { inStep .regWrite 4 with cfg := { Config.reference with nCallers := 2 }, agenda := [.present 1 0x50000000] }) :=
  ⟨rfl, rfl⟩
/-- T-10: a reserved word during another caller's transaction. -/
theorem test_reserved_while_busy : nextHas (fun t => t.refused = true ∧ t.faults = FaultSet.empty)
    (step { inStep .regWrite 4 with cfg := { Config.reference with nCallers := 2 }, agenda := [.present 1 0xF0000000] }) :=
  ⟨rfl, rfl⟩

/-- The table's word of a row, placed in the reset state, is the next instruction. -/
theorem test_withFetchWord : nextHas (fun t => t.phase = .run .regWrite 2 ∧ t.wdh = 0x85)
    (step (State.reset.withFetchWord 32 0x200512A7)) := ⟨rfl, rfl⟩

/-! ### Witnesses: concrete values that meet the hypotheses of each obligation -/

theorem witness_DecodeOfEncode : (Instr.csrWr 0x82).WellFormed ∧ (Instr.regWrite 31 0xFFFF).WellFormed := by decide

theorem witness_EncodeOfDecode : ∃ w i, decode w = .ok i ∧ w &&& 0x00E00000 ≠ 0 := ⟨0x20A512A7, _, rfl, by decide⟩

theorem witness_ReservedWordsAreRefused : ∃ (s : State) (c : Nat) (w : CmdWord) (e : Reserved),
    s.MayPresent c ∧ decode w = .error e := ⟨idleState, 0, 0x0000FFFF, _, by decide, rfl⟩

theorem witness_ReservedWordsAreRefused_busy : ∃ (s : State) (c : Nat) (w : CmdWord) (e : Reserved),
    s.MayPresent c ∧ decode w = .error e ∧ s.phase ≠ .idle :=
  ⟨{ inStep .regWrite 4 with cfg := { Config.reference with nCallers := 2 } }, 1, 0xF0000000, _, by decide, rfl, by decide⟩

theorem witness_DecodeAgreesWithOpcodeTable :
    (∃ r ∈ opcodeTable, r.Matches 0xA0000082) ∧ decode 0xA0000082 = .ok (.csrWr 0x82) := ⟨by decide, rfl⟩

theorem witness_AssemblyLinesDecode : CsrByteOk 0x82 ∧ CsrByteOk 0 := by decide

theorem witness_CommandBytes : Config.reference.Valid ∧ { Config.reference with cmdRead := none }.Valid ∧
    ({ Config.reference with cmdRead := none } : Config).cmdRead = none := by decide

/-- Caller 0 about to present `w` from `s`. -/
def presenting (w : CmdWord) (s : State) : State := { s with agenda := [.present 0 w] }

theorem witness_StepRunsDecodedInstruction : ∃ (s : State) (c : Nat) (w : CmdWord) (i : Instr) (rest : List Turn),
    s.NoFault ∧ s.agenda = .present c w :: rest ∧ s.MayPresent c ∧ decode w = .ok i :=
  ⟨presenting 0x200512A7 idleState, 0, _, _, _, rfl, rfl, by decide, rfl⟩

theorem witness_StepRunsDecodedInstruction_free : idleState.NoFault ∧ idleState.agenda = [] := by decide

theorem witness_PlacedWordRunsNext : State.reset.NoFault ∧ State.reset.phase = .idle ∧ 1 ≤ State.reset.cfg.nCallers ∧
    decodeTableWord 32 0xE0000000 = some .rdlRd := ⟨rfl, rfl, by decide, rfl⟩

theorem witness_OnlyFaultedStatesStop : State.reset.NoFault ∧
    { State.reset with faults := ⟨true, true⟩ }.faults.triggerWhileBusy = true ∧
    { State.reset with faults := ⟨false, true⟩ }.faults.triggerWhileBusy = false ∧
    { State.reset with faults := ⟨false, true⟩ }.faults.reentry = true := by decide

/-- The agent of `t` about to move from `s`. -/
def moving (t : Turn) (s : State) : State := { s with agenda := [t] }

theorem witness_IdleTickCountsDown : idleState.phase = .idle ∧ { idleState with sc := 2 }.phase = .idle := by decide

theorem witness_LinkStepsActOnThePorts : { idleState with wrBusy := true }.wrBusy = true := by decide

theorem witness_NopSettles : idleState.phase = .idle ∧ idleState.sc = 0 ∧
    { idleState with sc := 2 }.sc ≤ { idleState with sc := 2 }.cfg.nSettle ∧ (inStep .regWrite 4).phase ≠ .idle := by decide

theorem witness_CsrReadReturnsCsrValue : idleState.phase = .idle ∧ idleState.sc = 0 ∧ { idleState with sc := 1 }.sc ≠ 0 ∧
    (inStep .regRead 9).phase ≠ .idle := by decide

theorem witness_CsrWriteSetsControlBits : (0x82 : Byte) &&& 0x7D = 0 ∧ (0x83 : Byte) &&& 0x7D ≠ 0 ∧
    idleState.phase = .idle ∧ (inStep .sampleRead 1).phase ≠ .idle := by decide

theorem witness_PortAccess_phases : idleState.phase = .idle ∧ idleState.wrBusy = false ∧
    { idleState with wrBusy := true }.phase = .idle ∧ { idleState with wrBusy := true }.wrBusy = true ∧
    (inStep .sampleWrite 3).phase ≠ .idle := by decide

/-- The invariant of a state about to make the trigger of REG_WRITE. -/
theorem inv_trigger : (moving .fsm { inStep .regWrite 3 with wdh := 0x80 }).Inv where
  cfgOk := by decide
  settleOk := by decide
  indexOk := by simp [State.IndexOk, moving, inStep, Txn.length]
  countOk := by simp [State.CountOk, moving, inStep, idleState, State.reset, Config.reference]
  triggerOk := by simp [State.TriggerOk, moving, inStep, idleState, State.reset]
  latchOk := by simp [State.LatchOk, moving, inStep]; decide
  sentOk := by simp [State.SentOk, moving, inStep]
  ownerOk := by intro _; decide

theorem witness_TriggerWhileBusyFaults : { idleState with wrBusy := true }.phase = .idle ∧
    { inStep .regWrite 3 with wrBusy := true }.micro = some (.wr .wdl 0) ∧
    { inStep .regWrite 3 with wrBusy := true }.wrBusy = true := ⟨rfl, rfl, rfl⟩

theorem witness_TransactionsNeverTriggerWhileBusy : ∃ s t : State, s.Inv ∧ step s = .next t ∧ ∀ c w b, s.turn = .present c w → decode w ≠ .ok (.wdlWr b) :=
  ⟨_, _, inv_trigger, rfl, fun _ _ _ h => nomatch h⟩

theorem witness_ReentryFaults : (Instr.csrWr 0x82).WellFormed ∧ ¬ IsTransform (.csrWr 0x82) ∧
    (inStep .regRead 2).phase ≠ .idle ∧ IsTransform (.encUlaw 0) := ⟨by decide, fun h => h, by decide, trivial⟩

/-- The limits at which a poll goes on, ends, and is unbounded. -/
theorem witness_PollAttempt : ∃ s : State,
    s.phase = .run .sampleRead 1 ∧ s.micro = some (.poll .dataAvail true) ∧ s.sc = 0 ∧ s.status .dataAvail ≠ true ∧
      s.cfg.pollLimit = some 2 ∧ s.pcnt + 1 < 2 ∧
    ∃ t : State, t.micro = some (.poll .dataAvail true) ∧ t.sc = 0 ∧ t.status .dataAvail ≠ true ∧
      t.cfg.pollLimit = some 2 ∧ 2 ≤ t.pcnt + 1 ∧
    ∃ u : State, u.micro = some (.poll .wrBusy false) ∧ u.phase = .run .regWrite 5 ∧ u.status .wrBusy = false ∧ u.sc = 0 ∧
    ∃ v : State, v.micro = some (.poll .wrBusy false) ∧ v.phase = .run .regWrite 2 ∧ 0 < v.sc :=
  ⟨{ inStep .sampleRead 1 with cfg := { Config.reference with pollLimit := some 2 } }, rfl, rfl, rfl, by decide, rfl,
    by decide,
   { inStep .sampleRead 1 with cfg := { Config.reference with pollLimit := some 2 }, pcnt := 1 }, rfl, rfl, by decide, rfl,
    by decide,
   inStep .regWrite 5, rfl, rfl, rfl, rfl, { inStep .regWrite 2 with sc := 1 }, rfl, rfl, by decide⟩

theorem witness_TimeoutOnlyWhenBounded : ∃ (s t : State) (c : Nat),
    step s = .next t ∧ t.results = s.results ++ [(c, .timeout)] :=
  ⟨moving .fsm { inStep .sampleRead 1 with cfg := { Config.reference with pollLimit := some 1 } }, _, 0, rfl, rfl⟩

theorem witness_UnboundedPollHangs : ∃ (s : State) (rest : List Turn), s.NoFault ∧ s.cfg.pollLimit = none ∧
    s.micro = some (.poll .wrBusy false) ∧ s.status .wrBusy ≠ false ∧ s.agenda = fsmTurns 3 ++ rest :=
  ⟨{ inStep .regWrite 2 with wrBusy := true, agenda := [.fsm, .fsm, .fsm, .linkTx] }, [.linkTx], rfl, rfl, rfl, by decide,
    rfl⟩

theorem witness_MicroStepsAccessOnePort : idleState.wrBusy = false ∧ { idleState with wrBusy := true }.wrBusy = true := by
  decide

theorem witness_MicroPrograms : idleState.phase = .idle ∧ { idleState with sc := 1 }.phase = .idle ∧
    0 < { idleState with sc := 1 }.sc ∧ idleState.sc = 0 ∧ idleState.wrBusy = false ∧ idleState.dataAvail = false ∧
    { idleState with wrBusy := true }.wrBusy = true ∧ { idleState with dataAvail := true }.dataAvail = true ∧
    idleState.cfg.pollLimit ≠ some 0 ∧ idleState.cfg.pollLimit ≠ some 1 ∧
    { Config.reference with pollLimit := some 1 }.pollLimit = some 1 ∧
    (inStep .regWrite 3).phase = .run .regWrite 3 ∧ (inStep .regWrite 3).wrBusy = false ∧
    (inStep .sampleRead 2).phase ≠ .idle := by decide

theorem witness_MicroPrograms_steps :
    (inStep .regWrite 6).phase = .run .regWrite 6 ∧ (inStep .regWrite 7).phase = .run .regWrite 7 ∧
    (inStep .regRead 2).phase = .run .regRead 2 ∧ (inStep .regRead 3).phase = .run .regRead 3 ∧
    (inStep .regRead 5).phase = .run .regRead 5 ∧ (inStep .regRead 7).phase = .run .regRead 7 ∧
    (inStep .regRead 9).phase = .run .regRead 9 ∧ (inStep .regRead 7).wrBusy = false ∧
    (inStep .sampleWrite 1).phase = .run .sampleWrite 1 ∧ (inStep .sampleWrite 3).phase = .run .sampleWrite 3 ∧
    (inStep .sampleWrite 3).wrBusy = false ∧ (inStep .sampleRead 1).phase = .run .sampleRead 1 ∧
    (inStep .sampleRead 3).phase = .run .sampleRead 3 := by decide

theorem witness_RegWriteRunsInMinimumCycles : ∃ (s : State) (w : CmdWord) (a : RegAddr) (d : Word),
    s.NoFault ∧ s.phase = .idle ∧ s.wrBusy = false ∧ 1 ≤ s.cfg.nCallers ∧ decode w = .ok (.regWrite a d) ∧
    s.agenda = .present 0 w :: (fsmTurns (s.cfg.nSettle + 1) ++ .fsm :: .linkTx ::
      (fsmTurns (s.cfg.nSettle + 1) ++ (fsmTurns (s.cfg.nSettle + 1) ++ .fsm :: .fsm :: []))) :=
  ⟨{ idleState with agenda := .present 0 0x200512A7 :: (fsmTurns 3 ++ .fsm :: .linkTx ::
      (fsmTurns 3 ++ (fsmTurns 3 ++ .fsm :: .fsm :: []))) }, 0x200512A7, 5, 0x12A7, rfl, rfl, rfl, by decide, rfl, rfl⟩

theorem witness_RegReadRunsInMinimumCycles : ∃ (s : State) (w : CmdWord) (a : RegAddr) (x : Word),
    s.NoFault ∧ s.phase = .idle ∧ s.wrBusy = false ∧ 1 ≤ s.cfg.nCallers ∧ decode w = .ok (.regRead a) ∧
    s.agenda = .present 0 w :: (fsmTurns (s.cfg.nSettle + 1) ++ .fsm :: .linkTx :: .linkRx x ::
      (fsmTurns (s.cfg.nSettle + 1) ++ (fsmTurns (s.cfg.nSettle + 1) ++ .fsm :: .fsm :: .fsm :: .fsm :: []))) :=
  ⟨{ idleState with agenda := .present 0 0x10050000 :: (fsmTurns 3 ++ .fsm :: .linkTx :: .linkRx 0x00C3 ::
      (fsmTurns 3 ++ (fsmTurns 3 ++ .fsm :: .fsm :: .fsm :: .fsm :: []))) }, 0x10050000, 5, 0x00C3, rfl, rfl, rfl,
    by decide, rfl, rfl⟩

theorem witness_SampleWriteRunsInMinimumCycles : ∃ (s : State) (w : CmdWord) (d : Word),
    s.NoFault ∧ s.phase = .idle ∧ s.wrBusy = false ∧ 1 ≤ s.cfg.nCallers ∧ decode w = .ok (.sampleWrite d) ∧
    s.agenda = .present 0 w :: (fsmTurns s.sc ++ .fsm :: .fsm :: []) :=
  ⟨{ idleState with sc := 2, agenda := .present 0 0x40001235 :: (fsmTurns 2 ++ .fsm :: .fsm :: []) }, 0x40001235, 0x1235,
    rfl, rfl, rfl, by decide, rfl, rfl⟩

theorem witness_SampleReadRunsInMinimumCycles : ∃ (s : State) (w : CmdWord),
    s.NoFault ∧ s.phase = .idle ∧ s.dataAvail = true ∧ 1 ≤ s.cfg.nCallers ∧ decode w = .ok .sampleRead ∧
    s.agenda = .present 0 w :: (fsmTurns s.sc ++ .fsm :: .fsm :: []) :=
  ⟨{ idleState with dataAvail := true, agenda := .present 0 0x30000000 :: (fsmTurns 0 ++ .fsm :: .fsm :: []) },
    0x30000000, rfl, rfl, rfl, by decide, rfl, rfl⟩

theorem witness_TornReads : ∃ (s u : State) (x : Word),
    s.NoFault ∧ s.phase = .run .regRead 8 ∧ s.agenda = .fsm :: .linkRx x :: .fsm :: [] ∧
    u.NoFault ∧ u.phase = .run .sampleRead 2 ∧ u.agenda = .fsm :: .linkRx x :: .fsm :: [] :=
  ⟨{ inStep .regRead 8 with agenda := [.fsm, .linkRx 0x2222, .fsm] },
   { inStep .sampleRead 2 with agenda := [.fsm, .linkRx 0x2222, .fsm] }, 0x2222, rfl, rfl, rfl, rfl, rfl, rfl⟩

/-- The invariant of a state about to end REG_WRITE, its word sent. -/
theorem inv_last : (moving .fsm { inStep .regWrite 7 with txlog := [0x8000] }).Inv where
  cfgOk := by decide
  settleOk := by decide
  indexOk := by simp [State.IndexOk, moving, inStep, Txn.length]
  countOk := by simp [State.CountOk, moving, inStep, idleState, State.reset, Config.reference]
  triggerOk := by simp [State.TriggerOk, moving, inStep, idleState, State.reset]
  latchOk := by simp [State.LatchOk, moving, inStep, idleState, State.reset]
  sentOk := by simp [State.SentOk, moving, inStep, State.Sent, idleState, State.reset]; decide
  ownerOk := by intro _; decide

theorem witness_RegWriteWordHasBeenSent : ∃ s t : State, s.Inv ∧ step s = .next t ∧ s.phase = .run .regWrite 7 ∧
    t.phase = .idle ∧ t.results = s.results ++ [(s.owner, .ok .none)] := ⟨_, _, inv_last, rfl, rfl, rfl, rfl⟩

theorem witness_SampleWordLowBitIsZero : ∃ s t : State, step s = .next t ∧ s.phase = .run .sampleWrite 3 ∧
    t.txbuf ≠ s.txbuf :=
  ⟨moving .fsm { inStep .sampleWrite 3 with d := 0x1235, wdh := 0x12 }, _, rfl, rfl, by decide⟩

theorem witness_WrBusyChangesOnlyByTriggerAndLink :
    (∃ s t : State, step s = .next t ∧ s.wrBusy = false ∧ t.wrBusy = true ∧ s.turn = .fsm) ∧
    (∃ s t : State, step s = .next t ∧ s.wrBusy = false ∧ t.wrBusy = true ∧ s.turn = .present 0 0xC0000035) ∧
    (∃ s t : State, step s = .next t ∧ s.wrBusy = true ∧ t.wrBusy = false) ∧
    (∃ s t : State, step s = .next t ∧ s.wrBusy = true ∧ t.wrBusy = true) :=
  ⟨⟨moving .fsm (inStep .regRead 7), _, rfl, rfl, rfl, rfl⟩, ⟨presenting 0xC0000035 idleState, _, rfl, rfl, rfl, rfl⟩,
   ⟨moving .linkTx { idleState with wrBusy := true }, _, rfl, rfl, rfl⟩,
   ⟨moving .linkAvClr { idleState with wrBusy := true }, _, rfl, rfl, rfl⟩⟩

theorem witness_DataAvailChangesOnlyByLink :
    (∃ s t : State, step s = .next t ∧ s.dataAvail = false ∧ t.dataAvail = true) ∧
    (∃ s t : State, step s = .next t ∧ s.dataAvail = true ∧ t.dataAvail = false) ∧
    (∃ s t : State, step s = .next t ∧ s.AwaitsData ∧ t.phase ≠ s.phase ∧ t.phase ≠ .idle) :=
  ⟨⟨moving (.linkRx 0) idleState, _, rfl, rfl, rfl⟩,
   ⟨moving .linkAvClr { idleState with dataAvail := true }, _, rfl, rfl, rfl⟩,
   ⟨moving .fsm { inStep .sampleRead 1 with dataAvail := true }, _, rfl, rfl, by decide, by decide⟩⟩

theorem witness_ReadPortsHoldLastReceivedWord :
    (∃ s t : State, step s = .next t ∧ s.turn = .linkRx 0xFFFF) ∧
    (∃ s t : State, step s = .next t ∧ ∀ w : Word, s.turn ≠ .linkRx w) :=
  ⟨⟨moving (.linkRx 0xFFFF) idleState, _, rfl, rfl⟩, ⟨moving .fsm idleState, _, rfl, fun _ h => nomatch h⟩⟩

theorem witness_ControlBitsHoldLastWrite : (0x80 : Byte) &&& 0x7D = 0 ∧ State.reset.phase = .idle ∧ ∃ s t : State,
    step s = .next t ∧ (t.resetN ≠ s.resetN ∨ t.enable ≠ s.enable) :=
  ⟨by decide, rfl, presenting 0xA0000080 State.reset, _, rfl, .inl (by decide)⟩

theorem witness_SegmentSearchFindsSmallest : segment limU 63 = 0 ∧ segment limU 8191 = 7 ∧ segment limA 31 = 0 ∧
    segment limA 4095 = 7 := by decide

theorem witness_SentWordsAreNeverLost : ∃ s t : State, step s = .next t ∧ t.txlog ≠ s.txlog :=
  ⟨moving .linkTx { idleState with wrBusy := true, txbuf := 0x85A7 }, _, rfl, by decide⟩

theorem witness_MarksAreSticky : (∃ s t : State, step s = .next t ∧ s.refused = true) ∧
    ∃ (m : Turn) (u v : State), takeTurn m u = .next v ∧ u.faults.triggerWhileBusy = true ∧ u.faults.reentry = true ∧
      u.refused = true :=
  ⟨⟨moving .fsm { idleState with refused := true }, _, rfl, rfl⟩, .present 0 0,
   { idleState with faults := ⟨true, true⟩, refused := true }, _, rfl, rfl, rfl, rfl⟩

theorem witness_InstructionFrames : (∃ t, exec (.regRead 31) idleState = .next t) ∧
    (∃ t, exec .sampleRead idleState = .next t) ∧ (∃ t, exec (.sampleWrite 0) (inStep .regRead 2) = .next t) ∧
    idleState.phase = .idle := ⟨⟨_, rfl⟩, ⟨_, rfl⟩, ⟨_, rfl⟩, rfl⟩

theorem witness_SingleCallerNeverReenters : (∃ s t : State, s.Inv ∧ s.cfg.nCallers = 1 ∧ step s = .next t) ∧
    ∃ (s : State) (w : CmdWord), s.NoFault ∧ s.agenda = .present 0 w :: [] ∧ s.phase ≠ .idle ∧ s.owner = 0 :=
  ⟨⟨_, _, inv_trigger, rfl, rfl⟩, presenting 0 (inStep .regWrite 4), 0, rfl, rfl, by decide, rfl⟩

theorem witness_ResetMeetsInvariant :
    { idleState with wrBusy := true, dataAvail := true, wdh := 0xFF, rdl := 1, a := 31, hi := 7, txbuf := 0xABCD }.AfterReset ∧
      idleState.cfg.Valid := by decide

theorem witness_StepKeepsInvariant : ∃ s t : State, s.Inv ∧ step s = .next t ∧ t.wrBusy = true := ⟨_, _, inv_trigger, rfl, rfl⟩

/-! A responsive run: SAMPLE_READ waits for a word while another is in flight, the link sends the one and delivers the
other, and once the operation has ended clears DATA_AVAIL for ever. -/

/-- The moves of the run. -/
def demoTurns : Nat → Turn
  | 0 => .fsm
  | 1 => .linkTx
  | 2 => .linkRx 0x0102
  | 3 => .fsm
  | 4 => .fsm
  | 5 => .fsm
  | 6 => .linkRx 0x0304
  | _ => .linkAvClr

/-- SAMPLE_READ in its poll, the read ports empty, a word in flight and one settle cycle to go. -/
def demoStart : State := { inStep .sampleRead 1 with wrBusy := true, sc := 1 }

/-- The state after `n` moves of the run. -/
def demoRun : Nat → State
  | 0 => demoStart
  | n + 1 =>
    match takeTurn (demoTurns n) (demoRun n) with
    | .next t => t
    | .fault _ => demoRun n
    | .refused _ => demoRun n

theorem demoRun_tail (n : Nat) : demoRun (n + 8) = demoRun 8 := by
  induction n with
  | zero => rfl
  | succ n ih =>
    have h : demoRun (n + 1 + 8) = linkAvClr (demoRun (n + 8)) := rfl
    rw [h, ih]; rfl

/-- A property of every state of the run follows from its first nine. -/
theorem demoRun_forall {P : Nat → State → Prop} (h : ∀ n, n < 9 → P n (demoRun n))
    (h8 : ∀ n, 8 ≤ n → P 8 (demoRun 8) → P n (demoRun 8)) (n : Nat) : P n (demoRun n) := by
  rcases Nat.lt_or_ge n 9 with hn | hn
  · exact h n hn
  · obtain ⟨k, rfl⟩ : ∃ k, n = k + 8 := ⟨n - 8, by omega⟩
    rw [demoRun_tail]; exact h8 _ (by omega) (h 8 (by decide))

theorem demoRun_noFault (n : Nat) : (demoRun n).NoFault := by
  refine demoRun_forall (P := fun _ s => s.NoFault) (fun n hn => ?_) (fun _ _ h => h) n
  interval_cases n <;> rfl

theorem demoRun_isRun : IsRun demoTurns demoRun := by
  refine fun n => ⟨demoRun_noFault n, (demoRun n).agenda, (demoRun n).draws, ?_⟩
  rcases Nat.lt_or_ge n 8 with h | h
  · interval_cases n <;> rfl
  · obtain ⟨k, rfl⟩ : ∃ k, n = k + 8 := ⟨n - 8, by omega⟩
    rfl

theorem demoRun_idle (n : Nat) : 6 ≤ n → (demoRun n).phase = .idle := by
  refine demoRun_forall (P := fun n s => 6 ≤ n → s.phase = .idle) (fun n hn h => ?_) (fun _ _ h _ => h (by decide)) n
  interval_cases n <;> rfl

theorem demoRun_notBusy (n : Nat) : 2 ≤ n → (demoRun n).wrBusy = false := by
  refine demoRun_forall (P := fun n s => 2 ≤ n → s.wrBusy = false) (fun n hn h => ?_) (fun _ _ h _ => h (by decide)) n
  interval_cases n <;> rfl

theorem demoRun_awaits (n : Nat) (h : (demoRun n).AwaitsData) : n < 4 := by
  by_contra hc
  rcases Nat.lt_or_ge n 6 with h6 | h6
  · have e : n = 4 ∨ n = 5 := by omega
    rcases e with rfl | rfl <;> exact absurd h (by unfold State.AwaitsData; decide)
  · simp [State.AwaitsData, State.micro, demoRun_idle n h6] at h

theorem demoRun_responsive : LinkResponsive demoTurns demoRun := by
  refine ⟨fun n hn => ⟨1, ?_, rfl, rfl⟩, fun n hn => ⟨6, ?_, ⟨_, rfl⟩, fun j hj ha _ => ?_⟩⟩
  · by_contra hc
    rw [demoRun_notBusy n (by omega)] at hn
    exact absurd hn (by decide)
  · have := demoRun_awaits n hn; omega
  · have := demoRun_awaits j (ha j hj (Nat.le_refl j)); omega

theorem demoRun_inv : (demoRun 0).Inv where
  cfgOk := by decide
  settleOk := by decide
  indexOk := by simp [State.IndexOk, demoRun, demoStart, inStep, Txn.length]
  countOk := by simp [State.CountOk, demoRun, demoStart, inStep, idleState, State.reset, Config.reference]
  triggerOk := by simp [State.TriggerOk, demoRun, demoStart, inStep]
  latchOk := by simp [State.LatchOk, demoRun, demoStart, inStep]
  sentOk := by simp [State.SentOk, demoRun, demoStart, inStep]
  ownerOk := by intro _; decide

theorem witness_ResponsiveLinkLetsTransactionsEnd : (demoRun 0).Inv ∧ IsRun demoTurns demoRun ∧ FsmFair demoTurns demoRun ∧
    LinkResponsive demoTurns demoRun ∧ (demoRun 0).phase ≠ .idle := by
  refine ⟨demoRun_inv, demoRun_isRun, fun n hn => ⟨5, ?_, rfl⟩, demoRun_responsive, by decide⟩
  by_contra hc
  exact hn (demoRun_idle n (by omega))

/-! Companders: the boundary of every clause. -/

theorem witness_Transforms : IsTransform (.encUlaw 0) ∧ IsTransform (.decUlaw 0) ∧ IsTransform (.encAlaw 0) ∧
    IsTransform (.decAlaw 0) := ⟨trivial, trivial, trivial, trivial⟩

/-- -32768 gives the biased magnitude 8192; 32635 gives 8191, in segment 7; 123 gives 63, in segment 0. -/
theorem witness_EncUlawFollowsTheFormula :
    min (Int.fdiv (0x8000 : Word).toInt 4).natAbs 8159 + 33 = 8192 ∧
    (min (Int.fdiv (0x7F7B : Word).toInt 4).natAbs 8159 + 33 < 64 * 2 ^ 7 ∧
      ∀ j, j < 7 → 64 * 2 ^ j ≤ min (Int.fdiv (0x7F7B : Word).toInt 4).natAbs 8159 + 33) ∧
    min (Int.fdiv (0x007B : Word).toInt 4).natAbs 8159 + 33 < 64 * 2 ^ 0 := by decide

/-- 0x00 has the complement 0xFF, 0xFF the complement 0x00. -/
theorem witness_DecUlawFollowsTheFormula : 128 ≤ 255 - (0x00 : Byte).toNat ∧ ¬ 128 ≤ 255 - (0xFF : Byte).toNat := by decide

/-- -32768 gives the magnitude 4095, in segment 7; -1 gives 0, in segment 0. -/
theorem witness_EncAlawFollowsTheFormula :
    ((4095 : Nat) : Int) = -(Int.tdiv (0x8000 : Word).toInt 8) - 1 ∧ ¬ 0 ≤ Int.tdiv (0x8000 : Word).toInt 8 ∧
    (4095 < 32 * 2 ^ 7 ∧ ∀ j, j < 7 → 32 * 2 ^ j ≤ 4095) ∧
    ((0 : Nat) : Int) = Int.tdiv (0xFFFF : Word).toInt 8 ∧ 0 < 32 * 2 ^ 0 := by decide

theorem witness_CompanderRanges : 32636 ≤ (0x7F7C : Word).toInt ∧ (0x8087 : Word).toInt ≤ -32633 ∧
    segment limA 4096 = 8 := by decide

/-- 0xD5 is of segment 0 and positive, 0x2A of segment 7 and negative. -/
theorem witness_DecAlawFollowsTheFormula :
    (0xD5 ^^^ 0x55) / 16 % 8 = 0 ∧ 128 ≤ 0xD5 ^^^ 0x55 ∧ (0x2A ^^^ 0x55) / 16 % 8 = 7 ∧ ¬ 128 ≤ 0x2A ^^^ 0x55 := by decide

theorem witness_RoundTrips : (644 : Nat) = ((decodeUlaw (encodeUlaw 0x8000)).toInt - (0x8000 : Word).toInt).natAbs ∧
    (519 : Nat) = ((decodeAlaw (encodeAlaw 0x83F9)).toInt - (0x83F9 : Word).toInt).natAbs ∧ (0 : Byte) ≠ 0x7F := by decide

end Sys2Proof.Machine
end

section
/-! SUPPORT. The family 10_state.md: what a cycle, a command and a move can do to the status bits, the control bits and
the marks, and the obligations that follow (R22 to R25, R34, R38). -/

namespace Sys2Proof.Machine

/-! ### The link's steps (R34) -/

theorem linkTx_of_busy {s : State} (h : s.wrBusy = true) :
    linkTx s = { s with txlog := s.txlog ++ [s.txbuf], wrBusy := false } := if_pos h

/-- The two bytes of the received word, by shift and truncation. -/
theorem linkRx_eq (w : Word) (s : State) :
    linkRx w s = { s with rdh := (w >>> 8).setWidth 8, rdl := w.setWidth 8, dataAvail := true } := rfl

/-- Settles O12, by the equation of each step of the link. -/
theorem linkStepsActOnThePorts : Obligations.LinkStepsActOnThePorts := fun s =>
  ⟨fun h => congrArg Host.Outcome.next (linkTx_of_busy h), fun w => congrArg Host.Outcome.next (linkRx_eq w s), rfl⟩

/-! ### Moves and micro-steps -/

/-- A step is the chosen agent's move. -/
theorem takeTurn_of_step {s t : State} (h : step s = .next t) : takeTurn s.turn s.afterTurn = .next t := by
  have hf := (step_cases h).1
  simpa only [step, scheduled, hf] using h

/-- A presented word is passed over, refused, or runs. -/
theorem presentCommand_cases {c : Nat} {w : CmdWord} {s t : State} (h : presentCommand c w s = .next t) :
    t = s ∨ t = s.refuse ∨ ∃ i, decode w = .ok i ∧ exec i (s.issue c) = .next t := by
  unfold presentCommand at h
  split at h
  · split at h
    · exact .inr (.inr ⟨_, ‹_›, h⟩)
    · cases h; exact .inr (.inl rfl)
  · cases h; exact .inl rfl

/-- Taking a move off the agenda leaves the FSM at its micro-step. -/
@[simp] theorem State.afterTurn_micro (s : State) : s.afterTurn.micro = s.micro := by
  simp [State.micro, State.microOf]

/-- No micro-program writes the CSR. -/
theorem State.microOf_ne_csr (s : State) (op : Txn) (k : Nat) (b : Byte) : s.microOf op k ≠ some (.wr .csr b) := by
  rw [State.microOf_eq]; split <;> simp

/-- The first micro-step of a transaction is a write to WDH or a poll (41_register_channel.md R124, R126,
42_sample_pipe.md R140, R142). -/
theorem State.latch_micro_ne_trigger (op : Txn) (a : RegAddr) (d : Word) (s : State) (b : Byte) :
    (s.latch op a d).micro ≠ some (.wr .wdl b) := by
  rw [State.micro_run (s.latch_phase op a d), State.microOf_eq]
  cases op <;> simp

/-- The effects of a cycle of the FSM, `CycleEffect s t`: the cycle from `s` may end in `t`. -/
inductive CycleEffect (s : State) : State → Prop
  /-- An idle tick. -/
  | idle (hp : s.phase = .idle) : CycleEffect s s.settle
  /-- An index outside the micro-program. -/
  | stuck (hm : s.micro = none) : CycleEffect s s
  | wdh {op : Txn} {k : Nat} {b : Byte} (hp : s.phase = .run op k) (hm : s.micro = some (.wr .wdh b)) :
      CycleEffect s (advance op k (s.putWdh b).openWindow)
  | trigger {op : Txn} {k : Nat} {b : Byte} (hp : s.phase = .run op k) (hm : s.micro = some (.wr .wdl b))
      (hb : s.wrBusy = false) : CycleEffect s (advance op k (s.trigger b).openWindow)
  | triggerBusy {b : Byte} (hm : s.micro = some (.wr .wdl b)) (hb : s.wrBusy = true) :
      CycleEffect s (s.raise .triggerWhileBusy)
  | rd {op : Txn} {k : Nat} {p : InPort} (hp : s.phase = .run op k) (hm : s.micro = some (.rd p)) :
      CycleEffect s (advance op k (s.capture p).openWindow)
  | pollSettles {f : StatusBit} {want : Bool} (hm : s.micro = some (.poll f want)) (hs : 0 < s.sc) :
      CycleEffect s s.settle
  | pollPasses {op : Txn} {k : Nat} {f : StatusBit} {want : Bool} (hp : s.phase = .run op k)
      (hm : s.micro = some (.poll f want)) (hs : s.sc = 0) (hb : s.csrBit f.index = want) :
      CycleEffect s (advance op k (s.csrAccess.setPcnt 0))
  | pollEnds {f : StatusBit} {want : Bool} (hm : s.micro = some (.poll f want)) (hs : s.sc = 0)
      (hb : s.csrBit f.index ≠ want) (hl : limitReached s.cfg (s.pcnt + 1) = true) :
      CycleEffect s (timeOut (s.csrAccess.setPcnt (s.pcnt + 1)))
  | pollRetries {f : StatusBit} {want : Bool} (hm : s.micro = some (.poll f want)) (hs : s.sc = 0)
      (hb : s.csrBit f.index ≠ want) (hl : limitReached s.cfg (s.pcnt + 1) = false) :
      CycleEffect s (s.csrAccess.setPcnt (s.pcnt + 1))

/-- A cycle of the FSM has one of the effects. -/
theorem fsmCycle_effect (s : State) : CycleEffect s (fsmCycle s) := by
  cases hp : s.phase with
  | idle => rw [fsmCycle_idle hp]; exact .idle hp
  | run op k =>
    have hmicro := State.micro_run hp
    rw [fsmCycle_run hp]
    obtain ⟨hm, e⟩ | ⟨p, b, s', hm, hw, e⟩ | ⟨b, hm, hb, e⟩ | ⟨p, hm, e⟩ |
      ⟨f, want, hm, ⟨hs, e⟩ | ⟨hs, hb, e⟩ | ⟨hs, hb, hl, e⟩ | ⟨hs, hb, hl, e⟩⟩ := runCycle_cases op k s <;>
      rw [e] <;> rw [← hmicro] at hm
    · exact .stuck hm
    · obtain ⟨rfl, -⟩ | ⟨rfl, e'⟩ | ⟨rfl, hb, e'⟩ | ⟨-, -, e'⟩ := portWrite_cases (p := p) (b := b) (s := s)
      · exact absurd (hmicro.symm.trans hm) (s.microOf_ne_csr op k b)
      · rw [e'] at hw; cases hw; exact .wdh hp hm
      · rw [e'] at hw; cases hw; exact .trigger hp hm hb
      · rw [e'] at hw; cases hw
    · exact .triggerBusy hm hb
    · exact .rd hp hm
    · exact .pollSettles hm hs
    · exact .pollPasses hp hm hs hb
    · exact .pollEnds hm hs hb hl
    · exact .pollRetries hm hs hb hl

/-- The start of a transaction has the effect of the latched state's first cycle. -/
theorem runCycle_latch_effect (op : Txn) (a : RegAddr) (d : Word) (s : State) :
    CycleEffect (s.latch op a d) (runCycle op 1 (s.latch op a d)) := fsmCycle_effect (s.latch op a d)

/-- What no operation changes: the parameters, DATA_AVAIL, RDH, RDL and the words sent, which are the link's; the issuing
caller and the agenda. -/
theorem exec_frame {i : Instr} {s t : State} (h : exec i s = .next t) :
    t.cfg = s.cfg ∧ t.dataAvail = s.dataAvail ∧ t.rdh = s.rdh ∧ t.rdl = s.rdl ∧ t.txlog = s.txlog ∧
      t.issuer = s.issuer ∧ t.agenda = s.agenda := by
  cases exec_effect h with
  | regRead | regWrite | sampleRead | sampleWrite => simp [← start_eq, start, fsmCycle_frame]
  | reentry | transform | reserved | nop | csrRd | csrWr | wdhWr | wdlWr | wdlBusy | rdhRd | rdlRd => simp

/-! ### WR_BUSY (R24) -/

/-- WR_BUSY, the word in flight and the words sent are the same in `t` as in `s`. -/
def State.SendKept (s t : State) : Prop := t.wrBusy = s.wrBusy ∧ t.txbuf = s.txbuf ∧ t.txlog = s.txlog

/-- From `s` to `t` the byte `b` was written to WDL with WR_BUSY = 0: the trigger of R31. -/
def State.Triggered (b : Byte) (s t : State) : Prop :=
  s.wrBusy = false ∧ t.wrBusy = true ∧ t.wdl = b ∧ t.txbuf = s.wdh ++ b ∧ t.txlog = s.txlog

/-- A cycle leaves the transmit side alone unless its micro-step is a trigger with WR_BUSY = 0. -/
theorem CycleEffect.send {s t : State} (h : CycleEffect s t) :
    s.SendKept t ∨ ∃ b, s.micro = some (.wr .wdl b) ∧ s.Triggered b t := by
  cases h with
  | @trigger _ _ b _ hm hb => exact .inr ⟨b, hm, by simp [State.Triggered, hb]⟩
  | idle | stuck | wdh | triggerBusy | rd | pollSettles | pollPasses | pollEnds | pollRetries =>
    exact .inl (by simp [State.SendKept])

/-- The start of a transaction triggers nothing. -/
theorem runCycle_latch_sendKept (op : Txn) (a : RegAddr) (d : Word) (s : State) :
    s.SendKept (runCycle op 1 (s.latch op a d)) := by
  obtain h | ⟨b, hm, -⟩ := (runCycle_latch_effect op a d s).send
  · simpa [State.SendKept] using h
  · exact absurd hm (State.latch_micro_ne_trigger op a d s b)

/-- A command leaves the transmit side alone unless it is a WDL_WR with WR_BUSY = 0. -/
theorem exec_send {i : Instr} {s t : State} (h : exec i s = .next t) :
    s.SendKept t ∨ ∃ b, i = .wdlWr b ∧ s.Triggered b t := by
  cases exec_effect h with
  | regRead | regWrite | sampleRead | sampleWrite => exact .inl (runCycle_latch_sendKept ..)
  | @wdlWr b _ hb => exact .inr ⟨b, rfl, by simp [State.Triggered, hb]⟩
  | reentry | transform | reserved | nop | csrRd | csrWr | wdhWr | wdlBusy | rdhRd | rdlRd =>
    exact .inl (by simp [State.SendKept])

/-- Everything a move can do to the transmit side: nothing, `L_TX`, or a trigger. -/
theorem takeTurn_send {m : Turn} {s t : State} (h : takeTurn m s = .next t) :
    s.SendKept t ∨
    (m = .linkTx ∧ s.wrBusy = true ∧ t.wrBusy = false ∧ t.txlog = s.txlog ++ [s.txbuf]) ∨
    ∃ b, s.Triggered b t ∧ (m = .fsm ∧ s.micro = some (.wr .wdl b) ∨
      ∃ c w, m = .present c w ∧ decode w = .ok (.wdlWr b)) := by
  cases m with
  | fsm =>
    cases h
    obtain k | ⟨b, hm, k⟩ := (fsmCycle_effect s).send
    · exact .inl k
    · exact .inr (.inr ⟨b, k, .inl ⟨rfl, hm⟩⟩)
  | linkTx =>
    cases h
    cases hb : s.wrBusy with
    | true => exact .inr (.inl ⟨rfl, rfl, by simp, by simp [linkTx_txlog, hb]⟩)
    | false => exact .inl (by simp [State.SendKept, linkTx_txlog, hb])
  | linkRx | linkAvClr | wrongDirection => cases h; exact .inl ⟨rfl, rfl, rfl⟩
  | present c w =>
    obtain rfl | rfl | ⟨i, hd, he⟩ := presentCommand_cases h
    · exact .inl ⟨rfl, rfl, rfl⟩
    · exact .inl ⟨rfl, rfl, rfl⟩
    · obtain k | ⟨b, rfl, k⟩ := exec_send he
      · exact .inl k
      · exact .inr (.inr ⟨b, k, .inr ⟨c, w, rfl, hd⟩⟩)

/-- Settles O38: of the three things a move can do to the transmit side, only a trigger sets WR_BUSY and only `L_TX`
clears it. -/
theorem wrBusyChangesOnlyByTriggerAndLink : Obligations.WrBusyChangesOnlyByTriggerAndLink := by
  intro s t h
  have hmove := takeTurn_send (takeTurn_of_step h)
  simp only [State.SendKept, State.Triggered, State.afterTurn_wrBusy, State.afterTurn_txbuf, State.afterTurn_txlog,
    State.afterTurn_wdh, State.afterTurn_micro] at hmove
  obtain ⟨hb, hx, hl⟩ | ⟨ht, hs, hc, hl⟩ | ⟨b, ⟨hs, hb, rfl, hx, -⟩, hm⟩ := hmove
  · exact ⟨by simp_all, by simp_all, fun _ _ => ⟨hx, hl⟩⟩
  · exact ⟨by simp_all, fun _ _ => ⟨ht, hl⟩, by simp_all⟩
  · exact ⟨fun _ _ => ⟨hx, hm⟩, by simp_all, by simp_all⟩

/-! ### DATA_AVAIL (R25) -/

/-- A move keeps DATA_AVAIL, or it is `L_RX` or `L_AVCLR`. -/
theorem takeTurn_dataAvail {m : Turn} {s t : State} (h : takeTurn m s = .next t) :
    t.dataAvail = s.dataAvail ∨ (∃ w, m = .linkRx w ∧ t = linkRx w s) ∨ (m = .linkAvClr ∧ t.dataAvail = false) := by
  cases m with
  | fsm => cases h; exact .inl (by simp [fsmCycle_frame])
  | linkTx => cases h; exact .inl (by simp)
  | linkRx w => cases h; exact .inr (.inl ⟨w, rfl, rfl⟩)
  | linkAvClr => cases h; exact .inr (.inr ⟨rfl, rfl⟩)
  | wrongDirection => cases h; exact .inl rfl
  | present c w =>
    obtain rfl | rfl | ⟨i, -, he⟩ := presentCommand_cases h
    · exact .inl rfl
    · exact .inl rfl
    · exact .inl (by simp [exec_frame he])

theorem State.AwaitsData.busy {s : State} (h : s.AwaitsData) : s.phase ≠ .idle := fun hp => by
  simp [State.AwaitsData, State.micro, hp] at h

/-- A cycle in a poll for DATA_AVAIL waits, ends in IDLE, or sees the bit at 1. -/
theorem CycleEffect.dataAvail_of_awaits {s t : State} (h : CycleEffect s t) (ha : s.AwaitsData) :
    t.phase = s.phase ∨ t.phase = .idle ∨ s.dataAvail = true := by
  cases h with
  | idle | stuck | triggerBusy | pollSettles | pollRetries => exact .inl rfl
  | pollEnds => exact .inr (.inl rfl)
  | pollPasses _ hm hs hb =>
    obtain ⟨rfl, rfl⟩ : _ = StatusBit.dataAvail ∧ _ = true := by simpa using hm.symm.trans ha
    exact .inr (.inr ((State.csrBit_status hs .dataAvail).symm.trans hb))
  | wdh _ hm | trigger _ hm | rd _ hm => cases hm.symm.trans ha

/-- A command presented outside IDLE leaves the phase where it is. -/
theorem exec_phase_of_busy {i : Instr} {s t : State} (h : exec i s = .next t) (hp : s.phase ≠ .idle) :
    t.phase = s.phase := by
  cases exec_effect h with
  | reentry | transform | reserved => simp
  | nop hi | csrRd hi | csrWr hi | wdhWr hi | wdlWr hi | wdlBusy hi | rdhRd hi | rdlRd hi | regRead hi | regWrite hi
  | sampleRead hi | sampleWrite hi => exact absurd hi hp

/-- A move leaves a poll for DATA_AVAIL in place, ends it in IDLE, or finds the bit at 1. -/
theorem takeTurn_dataAvail_of_awaits {m : Turn} {s t : State} (h : takeTurn m s = .next t) (ha : s.AwaitsData) :
    t.phase = s.phase ∨ t.phase = .idle ∨ s.dataAvail = true := by
  cases m with
  | fsm => cases h; exact (fsmCycle_effect s).dataAvail_of_awaits ha
  | linkTx => cases h; exact .inl (by simp)
  | linkRx | linkAvClr | wrongDirection => cases h; exact .inl rfl
  | present c w =>
    obtain rfl | rfl | ⟨i, -, he⟩ := presentCommand_cases h
    · exact .inl rfl
    · exact .inl rfl
    · exact .inl (exec_phase_of_busy (s := s.issue c) he ha.busy)

/-- Settles O39, by what a move can do to DATA_AVAIL and to a poll for it. -/
theorem dataAvailChangesOnlyByLink : Obligations.DataAvailChangesOnlyByLink := by
  intro s t h
  have hpoll := takeTurn_dataAvail_of_awaits (takeTurn_of_step h)
  have hmove := takeTurn_dataAvail (takeTurn_of_step h)
  simp only [State.AwaitsData, State.afterTurn_micro, State.afterTurn_phase, State.afterTurn_dataAvail] at hpoll hmove
  refine ⟨fun h0 h1 => ?_, fun h1 h0 => ?_, fun ha hp hi => ((hpoll ha).resolve_left hp).resolve_left hi⟩
  · obtain e | ⟨w, ht, rfl⟩ | ⟨-, e⟩ := hmove
    · simp_all
    · exact ⟨w, ht, congrArg State.rdh (linkRx_eq w _), congrArg State.rdl (linkRx_eq w _)⟩
    · simp_all
  · obtain e | ⟨w, -, rfl⟩ | ⟨ht, -⟩ := hmove
    · simp_all
    · simp at h0
    · exact ht

/-! ### RESET_N and ENABLE (R22, R23) -/

/-- No cycle of the FSM changes RESET_N or ENABLE. -/
theorem CycleEffect.control {s t : State} (h : CycleEffect s t) : t.resetN = s.resetN ∧ t.enable = s.enable := by
  cases h <;> simp

/-- A command changes RESET_N or ENABLE only where it is a CSR_WR. -/
theorem exec_control {i : Instr} {s t : State} (h : exec i s = .next t) :
    (t.resetN = s.resetN ∧ t.enable = s.enable) ∨ ∃ b, i = .csrWr b := by
  cases exec_effect h with
  | regRead | regWrite | sampleRead | sampleWrite => exact .inl (runCycle_latch_effect ..).control
  | csrWr | reserved => exact .inr ⟨_, rfl⟩
  | reentry | transform | nop | csrRd | wdhWr | wdlWr | wdlBusy | rdhRd | rdlRd => exact .inl ⟨rfl, rfl⟩

/-- A move keeps RESET_N and ENABLE, or presents a CSR_WR. -/
theorem takeTurn_control {m : Turn} {s t : State} (h : takeTurn m s = .next t) :
    (t.resetN = s.resetN ∧ t.enable = s.enable) ∨ ∃ c w b, m = .present c w ∧ decode w = .ok (.csrWr b) := by
  cases m with
  | fsm => cases h; exact .inl (fsmCycle_effect s).control
  | linkTx => cases h; exact .inl (by simp)
  | linkRx | linkAvClr | wrongDirection => cases h; exact .inl ⟨rfl, rfl⟩
  | present c w =>
    obtain rfl | rfl | ⟨i, hd, he⟩ := presentCommand_cases h
    · exact .inl ⟨rfl, rfl⟩
    · exact .inl ⟨rfl, rfl⟩
    · obtain k | ⟨b, rfl⟩ := exec_control he
      · exact .inl k
      · exact .inr ⟨c, w, b, rfl, hd⟩

/-- A CSR_WR from IDLE writes the two control bits and opens the settle window. -/
theorem exec_csrWr_idle {b : Byte} {s : State} (hb : CsrByteOk b) (hp : s.phase = .idle) :
    exec (.csrWr b) s = .next (s.putControl b).openWindow := by
  simp only [exec, execCsrWr, if_pos hb, execWrite, whenIdle_idle hp, portWrite]
  rw [State.goto_idle_eq (by simpa using hp)]

/-- The end of a micro-step does not read the control bits. -/
theorem advance_putControl (op : Txn) (k : Nat) (b : Byte) (s : State) :
    advance op k (s.putControl b) = (advance op k s).putControl b := by
  unfold advance
  split
  · rfl
  · cases op <;> rfl

/-- A micro-step's result with the control bits written afterwards. -/
def MicroResult.putControl (b : Byte) : MicroResult → MicroResult
  | .done s => .done (s.putControl b)
  | .wait s => .wait (s.putControl b)
  | .timeout s => .timeout (s.putControl b)
  | .fault f => .fault f

/-- A micro-step that is no write to CSR neither reads nor writes the control bits. -/
theorem microStep_putControl {m : Micro} (hm : ∀ x, m ≠ .wr .csr x) (b : Byte) (s : State) :
    microStep m (s.putControl b) = (microStep m s).putControl b := by
  cases m with
  | wr p x =>
    cases p with
    | csr => exact absurd rfl (hm x)
    | wdh => rfl
    | wdl => cases hb : s.wrBusy <;> simp [microStep, portWrite, hb] <;> rfl
  | rd p => cases p <;> rfl
  | poll f want =>
    -- neither status bit a poll may read is a control bit
    simp only [microStep, poll, apply_ite (MicroResult.putControl b)]
    cases f <;> rfl

/-- A cycle of a transaction is the same, but for the control bits, whatever they hold. -/
theorem runCycle_putControl (op : Txn) (k : Nat) (b : Byte) (s : State) :
    runCycle op k (s.putControl b) = (runCycle op k s).putControl b := by
  have hc : (s.putControl b).microOf op k = s.microOf op k := State.microOf_congr rfl rfl rfl op k
  unfold runCycle
  rw [hc]
  cases hm : s.microOf op k with
  | none => rfl
  | some m =>
    simp only [microStep_putControl (fun x e => s.microOf_ne_csr op k x (hm.trans (congrArg some e)))]
    cases microStep m s with
    | done s' => exact advance_putControl op k b s'
    | wait | timeout | fault => rfl

/-- A cycle of the FSM is the same, but for the control bits, whatever they hold. -/
theorem fsmCycle_putControl (b : Byte) (s : State) : fsmCycle (s.putControl b) = (fsmCycle s).putControl b := by
  cases hp : s.phase with
  | idle => rw [fsmCycle_idle hp, fsmCycle_idle (by simpa using hp)]; rfl
  | run op k => rw [fsmCycle_run hp, fsmCycle_run (by simpa using hp)]; exact runCycle_putControl op k b s

/-- Settles O41: only CSR_WR writes the two bits, and every cycle of the FSM commutes with that write. -/
theorem controlBitsHoldLastWrite : Obligations.ControlBitsHoldLastWrite := by
  refine ⟨fun s t h hne => ?_, fun s b hb hp => ⟨_, exec_csrWr_idle hb hp, rfl, rfl⟩, fun s b => fsmCycle_putControl b s⟩
  obtain ⟨hr, he⟩ | hw := takeTurn_control (takeTurn_of_step h)
  · exact absurd hne (by simp [hr, he])
  · exact hw

/-! ### The fault set and the refusal mark (R38) -/

/-- Every reason and the mark of `s` are still set in `t`. -/
def State.MarksKept (s t : State) : Prop :=
  (s.faults.triggerWhileBusy = true → t.faults.triggerWhileBusy = true) ∧
  (s.faults.reentry = true → t.faults.reentry = true) ∧ (s.refused = true → t.refused = true)

theorem State.MarksKept.of_eq {s t : State} (hf : t.faults = s.faults) (hr : t.refused = s.refused) : s.MarksKept t := by
  simp [State.MarksKept, hf, hr]

/-- A fault adds a reason and takes none away. -/
theorem State.raise_marksKept (f : Fault) (s : State) : s.MarksKept (s.raise f) := by
  cases f <;> simp [State.MarksKept, State.raise, FaultSet.insert]

theorem State.refuse_marksKept (s : State) : s.MarksKept s.refuse := by
  simp [State.MarksKept]

theorem CycleEffect.marksKept {s t : State} (h : CycleEffect s t) : s.MarksKept t := by
  cases h with
  | triggerBusy => exact s.raise_marksKept _
  | idle | stuck | wdh | trigger | rd | pollSettles | pollPasses | pollEnds | pollRetries =>
    exact .of_eq (by simp) (by simp)

theorem exec_marksKept {i : Instr} {s t : State} (h : exec i s = .next t) : s.MarksKept t := by
  cases exec_effect h with
  | reentry | wdlBusy => exact s.raise_marksKept _
  | reserved => exact s.refuse_marksKept
  | regRead | regWrite | sampleRead | sampleWrite => exact (runCycle_latch_effect ..).marksKept
  | transform | nop | csrRd | csrWr | wdhWr | wdlWr | rdhRd | rdlRd => exact .of_eq rfl rfl

/-- No move of any agent clears a reason or the mark, in a state with a fault too. -/
theorem takeTurn_marksKept {m : Turn} {s t : State} (h : takeTurn m s = .next t) : s.MarksKept t := by
  cases m with
  | fsm => cases h; exact (fsmCycle_effect s).marksKept
  | linkTx => cases h; exact .of_eq (by simp) (by simp)
  | linkRx | linkAvClr => cases h; exact .of_eq rfl rfl
  | wrongDirection => cases h; exact s.refuse_marksKept
  | present c w =>
    obtain rfl | rfl | ⟨i, -, he⟩ := presentCommand_cases h
    · exact .of_eq rfl rfl
    · exact s.refuse_marksKept
    · exact exec_marksKept (s := s.issue c) he

/-- Settles O43, by the marks every move keeps. -/
theorem marksAreSticky : Obligations.MarksAreSticky := by
  refine ⟨rfl, rfl, fun _ _ _ h => takeTurn_marksKept h, fun s t h hr => ?_⟩
  obtain ⟨-, -, hm⟩ := takeTurn_marksKept (takeTurn_of_step h)
  exact hm (by simpa using hr)

end Sys2Proof.Machine
end

section
/-! SUPPORT. The family 30_encoding.md: when the decoder refuses a word and what presenting such a word does (R77), and
the command bytes as sums (R73). -/

namespace Sys2Proof

/-! ### Reserved words (R77) -/

theorem needA_error {w : CmdWord} {i : Instr} : (∃ e, needA w i = .error e) ↔ w.fieldA ≠ 0 := by
  unfold needA; split <;> simp_all

theorem needAD_error {w : CmdWord} {i : Instr} : (∃ e, needAD w i = .error e) ↔ w.fieldA ≠ 0 ∨ w.fieldD ≠ 0 := by
  unfold needAD; split <;> simp_all [needA_error]

theorem needAHigh_error {w : CmdWord} {i : Instr} : (∃ e, needAHigh w i = .error e) ↔ w.fieldA ≠ 0 ∨ w.highD ≠ 0 := by
  unfold needAHigh; split <;> simp_all [needA_error]

/-- The reserved bits of a CSR byte are its bits 6..2 and its bit 0. -/
theorem csrByteOk_iff : ∀ b : Byte, CsrByteOk b ↔ b.extractLsb' 2 5 = 0 ∧ b.extractLsb' 0 1 = 0 := by decide

/-- The byte operand of a word lets a CSR_WR pass exactly when `D[6:2]` and `D[0]` are 0. -/
theorem csrByteOk_operandB {w : CmdWord} : CsrByteOk w.operandB ↔ w.extractLsb' 2 5 = 0 ∧ w.extractLsb' 0 1 = 0 := by
  rw [csrByteOk_iff, CmdWord.operandB, BitVec.extractLsb'_extractLsb'_of_le (by decide),
    BitVec.extractLsb'_extractLsb'_of_le (by decide)]

/-- A field that the word's `OP` needs to be 0 is not 0 (R72). -/
def CmdWord.FieldNotZero (w : CmdWord) : Prop :=
  (w.op ≠ 0x1 ∧ w.op ≠ 0x2 ∧ w.fieldA ≠ 0) ∨
  ((w.op = 0x0 ∨ w.op = 0x1 ∨ w.op = 0x3 ∨ w.op = 0x9 ∨ w.op = 0xD ∨ w.op = 0xE) ∧ w.fieldD ≠ 0) ∨
  ((w.op = 0x6 ∨ w.op = 0x8 ∨ w.op = 0xA ∨ w.op = 0xB ∨ w.op = 0xC) ∧ w.highD ≠ 0) ∨
  (w.op = 0xA ∧ (w.extractLsb' 2 5 ≠ 0 ∨ w.extractLsb' 0 1 ≠ 0))

/-- The opcode map refuses the words with `OP = 0xF` and those with a must-be-zero field that is not 0, row by row. -/
theorem decodeOp_error_iff {w : CmdWord} : (∃ e, decodeOp w = .error e) ↔ w.op = 0xF ∨ w.FieldNotZero := by
  have hlt := w.op.isLt
  simp only [CmdWord.FieldNotZero, ne_eq, ← BitVec.toNat_inj (x := w.op)]
  unfold decodeOp
  split
  case h_1 h | h_4 h | h_10 h | h_14 h | h_15 h => simp [h, needAD_error]
  case h_2 h => split <;> simp_all
  case h_3 h => simp [h]
  case h_5 h | h_6 h | h_8 h => simp [h, needA_error]
  case h_7 h | h_9 h | h_12 h | h_13 h => simp [h, needAHigh_error]
  case h_11 h =>
    by_cases hc : CsrByteOk w.operandB
    · obtain ⟨hmid, hlow⟩ := csrByteOk_operandB.1 hc
      simp [h, if_pos hc, needAHigh_error, hmid, hlow]
    · have hbits := not_and_or.1 (mt csrByteOk_operandB.2 hc)
      rw [if_neg hc]
      exact iff_of_true ⟨_, rfl⟩ (.inr (.inr (.inr (.inr ⟨h, hbits⟩))))
  case h_16 =>
    have h : w.op.toNat = 15 := by grind
    simp [h]

/-- The decoder refuses exactly the words of R77. -/
theorem decode_error_iff {w : CmdWord} :
    (∃ e, decode w = .error e) ↔ w.op = 0xF ∨ w.rsv ≠ 0 ∨ w.FieldNotZero := by
  unfold decode
  split
  · simp_all [decodeOp_error_iff]
  · simp_all

/-! ### Disjoint bits of a command byte (R73) -/

/-- Bytes that share no bit have their sum as their union. -/
theorem toNat_or_of_and_eq_zero {x y : Byte} (h : x &&& y = 0) : (x ||| y).toNat = x.toNat + y.toNat := by
  rw [← BitVec.add_eq_or_of_and_eq_zero x y h, BitVec.toNat_add_of_and_eq_zero h]

/-- A byte and an address that shares no bit with it have their sum as their union. -/
theorem toNat_or_addr {x : Byte} {a : RegAddr} (h : x &&& a.setWidth 8 = 0) :
    (x ||| a.setWidth 8).toNat = x.toNat + a.toNat := by
  rw [toNat_or_of_and_eq_zero h, BitVec.toNat_setWidth_of_le (by decide)]

/-- The control bits lie above the address. -/
theorem CmdBit.mask_and_addr (b : CmdBit) (a : RegAddr) : b.mask &&& a.setWidth 8 = 0 := by
  revert a; cases b <;> decide

/-- Different control bits share no bit. -/
theorem CmdBit.mask_and_mask {b b' : CmdBit} (h : b ≠ b') : b.mask &&& b'.mask = 0 := by
  revert h; cases b <;> cases b' <;> decide

end Sys2Proof

namespace Sys2Proof.Machine

/-- A reserved word sets the mark and does nothing else, in every phase (60_exceptions.md R208). -/
theorem presentCommand_of_error {c : Nat} {w : CmdWord} {e : Reserved} {s : State} (hm : s.MayPresent c)
    (hd : decode w = .error e) : presentCommand c w s = .next s.refuse := by
  simp only [presentCommand, if_pos hm, hd]

/-- Settles O3, by what the decoder refuses and what presenting a refused word does. -/
theorem reservedWordsAreRefused : Obligations.ReservedWordsAreRefused :=
  ⟨fun _ => decode_error_iff, fun _ _ _ _ hm hd => presentCommand_of_error hm hd⟩

/-! ### Command bytes (R73) -/

theorem cmdWrite_toNat (c : Config) (a : RegAddr) : (cmdWrite c a).toNat = c.cmdStrobe.mask.toNat + a.toNat :=
  toNat_or_addr (CmdBit.mask_and_addr c.cmdStrobe a)

theorem cmdRead_of_none {c : Config} (h : c.cmdRead = none) (a : RegAddr) : cmdRead c a = cmdWrite c a := by
  simp [cmdRead, cmdWrite, cmdReadMask, h]

/-- Where the read bit is not the strobe bit, the two bits and the address are disjoint. -/
theorem cmdRead_toNat_of_some {c : Config} {b : CmdBit} (h : c.cmdRead = some b) (hb : c.cmdStrobe ≠ b) (a : RegAddr) :
    (cmdRead c a).toNat = c.cmdStrobe.mask.toNat + b.mask.toNat + a.toNat := by
  have haddr : (c.cmdStrobe.mask ||| b.mask) &&& a.setWidth 8 = 0 := by
    simp [BitVec.and_or_distrib_right, CmdBit.mask_and_addr]
  simp only [cmdRead, cmdReadMask, h]
  rw [toNat_or_addr haddr, toNat_or_of_and_eq_zero (CmdBit.mask_and_mask hb)]

/-- Settles O7, by the disjoint bits of a valid choice, with a read bit and without. -/
theorem commandBytes : Obligations.CommandBytes := by
  rintro c a ⟨-, -, hvalid, -⟩
  refine ⟨cmdWrite_toNat c a, ?_, fun h => cmdRead_of_none h a⟩
  cases h : c.cmdRead with
  | none => exact (congrArg BitVec.toNat (cmdRead_of_none h a)).trans (cmdWrite_toNat c a)
  | some b => exact cmdRead_toNat_of_some h (fun e => hvalid (h.trans (congrArg some e.symm))) a

end Sys2Proof.Machine
end

section
/-! SUPPORT. The family 40_port_access.md: what a port primitive answers from IDLE and outside it, the micro-steps WR
and RD, and the obligations that follow (R101 to R108, R110, R111). -/

namespace Sys2Proof.Machine

/-! ### Port writes and micro-steps (R110, R111) -/

/-- A write to WDL with WR_BUSY = 0 is the trigger. -/
theorem portWrite_wdl_free {s : State} (b : Byte) (h : s.wrBusy = false) :
    portWrite .wdl b s = .ok (s.trigger b).openWindow := if_neg (Bool.eq_false_iff.1 h)

/-- A write to WDL with WR_BUSY = 1 is the fault of R104. -/
theorem portWrite_wdl_busy {s : State} (b : Byte) (h : s.wrBusy = true) :
    portWrite .wdl b s = .error .triggerWhileBusy := if_pos h

theorem microStep_wr_ok {p : OutPort} {b : Byte} {s t : State} (h : portWrite p b s = .ok t) :
    microStep (.wr p b) s = .done t := by simp only [microStep, h]

theorem microStep_wr_error {p : OutPort} {b : Byte} {s : State} {f : Fault} (h : portWrite p b s = .error f) :
    microStep (.wr p b) s = .fault f := by simp only [microStep, h]

/-- Settles O14, by what a write to each port answers. -/
theorem microStepsAccessOnePort : Obligations.MicroStepsAccessOnePort := fun _ b =>
  ⟨microStep_wr_ok rfl, microStep_wr_ok rfl, fun h => microStep_wr_ok (portWrite_wdl_free b h),
    fun h => microStep_wr_error (portWrite_wdl_busy b h), rfl, rfl⟩

/-! ### Cycles of the FSM (R104, R108) -/

/-- Settles O11: in IDLE the FSM's cycle is a settle cycle. -/
theorem idleTickCountsDown : Obligations.IdleTickCountsDown := fun _ h => congrArg Host.Outcome.next (fsmCycle_idle h)

/-- A cycle whose micro-step faults adds the reason and does nothing else. -/
theorem fsmCycle_of_fault {s : State} {m : Micro} {f : Fault} (hm : s.micro = some m) (hf : microStep m s = .fault f) :
    fsmCycle s = s.raise f := by
  cases hp : s.phase with
  | idle => simp [State.micro, hp] at hm
  | run op k =>
    rw [State.micro_run hp] at hm
    simp only [fsmCycle_run hp, runCycle, hm, hf]

/-! ### Commands outside IDLE and in it -/

/-- Outside IDLE every operation but a transform is the Reentry fault, once its byte is accepted
(60_exceptions.md R205, R208). -/
theorem exec_reentry {i : Instr} {s : State} (hw : i.WellFormed) (ht : ¬ IsTransform i) (hp : s.phase ≠ .idle) :
    exec i s = .next (s.raise .reentry) := by
  cases i with
  | encUlaw | decUlaw | encAlaw | decAlaw => exact absurd trivial ht
  | csrWr b => exact (if_pos hw).trans (whenIdle_busy hp)
  | regRead | regWrite | sampleRead | sampleWrite => exact whenIdle_busy hp
  | nop | csrRd | wdhWr | wdlWr | rdhRd | rdlRd =>
    simp only [exec, execNop, execCsrRd, execWdhWr, execWdlWr, execWrite, execRdhRd, execRdlRd, execRead,
      whenIdle_busy hp]

/-- From IDLE a one-cycle write makes its port access. -/
theorem execWrite_idle {p : OutPort} {b : Byte} {s t : State} (hp : s.phase = .idle) (h : portWrite p b s = .ok t) :
    execWrite p b s = .next t := by
  obtain ⟨-, -, -, -, hphase, -⟩ := portWrite_frame h
  simp only [execWrite, whenIdle_idle hp, h, State.goto_idle_eq (hphase.trans hp)]

/-- From IDLE a one-cycle write whose access faults adds the reason. -/
theorem execWrite_fault {p : OutPort} {b : Byte} {s : State} {f : Fault} (hp : s.phase = .idle)
    (h : portWrite p b s = .error f) : execWrite p b s = .next (s.raise f) := by
  simp only [execWrite, whenIdle_idle hp, h]

/-- From IDLE a one-cycle read delivers the port's content and opens the settle window. -/
theorem execRead_idle {s : State} (p : InPort) (hp : s.phase = .idle) :
    execRead p s = .next (s.openWindow.deliver s.issuer (.ok (.u8 (portValue p s)))) := by
  rw [execRead, whenIdle_idle hp, State.goto_idle_eq (s.openWindow_phase.trans hp)]

/-! ### NOP (R107) -/

theorem exec_nop_idle {s : State} (hp : s.phase = .idle) : exec .nop s = .next s.settle := by
  simp only [exec, execNop, whenIdle_idle hp, State.goto_idle_eq (s.settle_phase.trans hp)]

/-- NOPs in a row from IDLE are settle cycles in a row. -/
theorem execTimes_nop (n : Nat) {s : State} (hp : s.phase = .idle) :
    execTimes .nop n s = .next (State.settle^[n] s) := by
  induction n generalizing s with
  | zero => rfl
  | succ n ih => simp only [execTimes, exec_nop_idle hp, ih (s.settle_phase.trans hp), Function.iterate_succ_apply]

/-- Settles O15: a NOP is a settle cycle, so `N_SETTLE` of them take any settle window to 0. -/
theorem nopSettles : Obligations.NopSettles := by
  refine ⟨fun _ => decode_ok_iff, fun s hp => exec_nop_idle hp, fun s hp h0 => ?_, fun s hp hle => ?_,
    fun s hp => exec_reentry trivial not_false hp⟩
  · have hs : s.settle = s := by cases s; simp_all [State.settle]
    rw [exec_nop_idle hp, hs]
  · rw [execTimes_nop _ hp, State.settle_iterate, Nat.sub_eq_zero_of_le hle]

/-! ### CSR_WR (R101) -/

theorem exec_csrWr_reserved {b : Byte} (s : State) (hb : ¬ CsrByteOk b) : exec (.csrWr b) s = .next s.refuse :=
  if_neg hb

/-- Settles O17: a reserved byte is refused before the phase is looked at. -/
theorem csrWriteSetsControlBits : Obligations.CsrWriteSetsControlBits :=
  ⟨fun _ _ => decode_ok_iff, fun _ _ hb hp => exec_csrWr_idle hb hp, fun s _ hb => exec_csrWr_reserved s hb,
    fun _ _ hb hp => exec_reentry hb not_false hp⟩

/-! ### WDH_WR and WDL_WR (R102 to R104) -/

/-- Settles O18: a write to WDH does not look at WR_BUSY. -/
theorem wdhWriteLatches : Obligations.WdhWriteLatches :=
  ⟨fun _ _ => decode_ok_iff, fun _ b hp => execWrite_idle (p := .wdh) (b := b) hp rfl,
    fun _ _ hp => exec_reentry trivial not_false hp⟩

theorem exec_wdlWr_busy {s : State} (b : Byte) (hp : s.phase = .idle) (hb : s.wrBusy = true) :
    exec (.wdlWr b) s = .next (s.raise .triggerWhileBusy) := execWrite_fault hp (portWrite_wdl_busy b hb)

/-- Settles O19, by the write to WDL with WR_BUSY = 0 and with WR_BUSY = 1. -/
theorem wdlWriteTriggers : Obligations.WdlWriteTriggers :=
  ⟨fun _ _ => decode_ok_iff, fun _ b hp hb => execWrite_idle hp (portWrite_wdl_free b hb),
    fun _ b hp hb => exec_wdlWr_busy b hp hb, fun _ _ hp => exec_reentry trivial not_false hp⟩

/-- Settles O21: the command and the FSM's micro-step make the same port write, which faults. -/
theorem triggerWhileBusyFaults : Obligations.TriggerWhileBusyFaults :=
  ⟨fun _ b hp hb => exec_wdlWr_busy b hp hb,
    fun _ b hm hb => fsmCycle_of_fault hm (microStep_wr_error (portWrite_wdl_busy b hb))⟩

/-! ### RDH_RD and RDL_RD (R105, R106) -/

/-- Settles O20: both commands are the one-cycle read of their port. -/
theorem dataPortReadsReturnContent : Obligations.DataPortReadsReturnContent :=
  ⟨fun _ => decode_ok_iff, fun _ => decode_ok_iff, fun _ hp => ⟨execRead_idle .rdh hp, execRead_idle .rdl hp⟩,
    fun _ hp => ⟨exec_reentry trivial not_false hp, exec_reentry trivial not_false hp⟩⟩

end Sys2Proof.Machine
end

section
/-! SUPPORT. The family 41_register_channel.md: what a cycle does at a micro-step whose outcome is known, the outcomes of
a poll, and the obligations that follow (R120, R121, R124, R126, R127). -/

namespace Sys2Proof.Machine

/-! ### A cycle by the outcome of its micro-step (R57, R123) -/

/-- A cycle whose micro-step is done goes on to the next one, or ends the transaction. -/
theorem fsmCycle_of_done {s t : State} {op : Txn} {k : Nat} {m : Micro} (hp : s.phase = .run op k)
    (hm : s.microOf op k = some m) (h : microStep m s = .done t) : fsmCycle s = advance op k t := by
  simp only [fsmCycle_run hp, runCycle, hm, h]

/-- A cycle whose micro-step waits stays at it. -/
theorem fsmCycle_of_wait {s t : State} {op : Txn} {k : Nat} {m : Micro} (hp : s.phase = .run op k)
    (hm : s.microOf op k = some m) (h : microStep m s = .wait t) : fsmCycle s = t := by
  simp only [fsmCycle_run hp, runCycle, hm, h]

/-- A cycle whose micro-step reaches the poll limit ends the transaction in TIMEOUT. -/
theorem fsmCycle_of_timeout {s t : State} {op : Txn} {k : Nat} {m : Micro} (hp : s.phase = .run op k)
    (hm : s.microOf op k = some m) (h : microStep m s = .timeout t) : fsmCycle s = timeOut t := by
  simp only [fsmCycle_run hp, runCycle, hm, h]

/-- A cycle at a trigger micro-step with WR_BUSY = 0. -/
theorem fsmCycle_of_trigger {s : State} {op : Txn} {k : Nat} {b : Byte} (hp : s.phase = .run op k)
    (hm : s.microOf op k = some (.wr .wdl b)) (hb : s.wrBusy = false) :
    fsmCycle s = advance op k (s.trigger b).openWindow :=
  fsmCycle_of_done hp hm (microStep_wr_ok (portWrite_wdl_free b hb))

/-! ### Polls (R120, R121) -/

/-- Where the settle window is closed, a CSR read shows the status bit a poll waits for. -/
theorem State.csrBit_eq_status {s : State} (h : s.sc = 0) (f : StatusBit) : s.csrBit f.index = s.status f := by
  cases f <;> exact State.csrBit_status h _

/-- Inside the settle window a poll is a settle cycle. -/
theorem poll_of_settling {s : State} (f : StatusBit) (want : Bool) (h : 0 < s.sc) : poll f want s = .wait s.settle :=
  if_pos h

/-- A CSR read that shows the wanted value satisfies the poll. -/
theorem poll_of_status_eq {s : State} {f : StatusBit} {want : Bool} (h : s.sc = 0) (hb : s.status f = want) :
    poll f want s = .done (s.csrAccess.setPcnt 0) := by
  simp [poll, h, State.csrBit_eq_status h, hb]

/-- A failed CSR read is counted, and ends the poll where the count reaches the limit. -/
theorem poll_of_status_ne {s : State} {f : StatusBit} {want : Bool} (h : s.sc = 0) (hb : s.status f ≠ want) :
    poll f want s =
      if limitReached s.cfg (s.pcnt + 1) then .timeout (s.csrAccess.setPcnt (s.pcnt + 1))
      else .wait (s.csrAccess.setPcnt (s.pcnt + 1)) := by
  simp [poll, h, State.csrBit_eq_status h, hb]

/-- No micro-program ends with a poll. -/
theorem State.lt_length_of_microOf_poll {s : State} {op : Txn} {k : Nat} {f : StatusBit} {want : Bool}
    (h : s.microOf op k = some (.poll f want)) : k < op.length := by
  rw [State.microOf_eq] at h
  split at h <;> simp_all [Txn.length]

/-- Settles O24, by the outcomes of the poll: it settles, sees the wanted value, or counts a failed read, below the limit
or at it. -/
theorem pollAttempt : Obligations.PollAttempt := by
  intro s op k f want hp hmicro
  have hm : s.microOf op k = some (.poll f want) := (State.micro_run hp).symm.trans hmicro
  refine ⟨fun hs => ?_, fun hs hb => ?_, fun hs hb hl => ?_, fun n hs hb hn hl => ?_⟩
  · exact fsmCycle_of_wait hp hm (poll_of_settling f want hs)
  · rw [fsmCycle_of_done hp hm (poll_of_status_eq hs hb), advance_lt (State.lt_length_of_microOf_poll hm)]
    rfl
  · have hbelow : ¬ limitReached s.cfg (s.pcnt + 1) = true := Bool.eq_false_iff.1 (limitReached_eq_false.2 hl)
    exact fsmCycle_of_wait hp hm ((poll_of_status_ne hs hb).trans (if_neg hbelow))
  · have hreached : limitReached s.cfg (s.pcnt + 1) = true := limitReached_eq_true.2 ⟨n, hn, hl⟩
    exact fsmCycle_of_timeout hp hm ((poll_of_status_ne hs hb).trans (if_pos hreached))

/-! ### Starts (R122) -/

theorem exec_regWrite_idle {s : State} (a : RegAddr) (d : Word) (hp : s.phase = .idle) :
    exec (.regWrite a d) s = .next (start .regWrite a d s) := whenIdle_idle hp

theorem exec_regRead_idle {s : State} (a : RegAddr) (hp : s.phase = .idle) :
    exec (.regRead a) s = .next (start .regRead a 0 s) := whenIdle_idle hp

/-- A transaction whose micro-step 1 writes WDH makes that write in its first cycle. -/
theorem start_of_wdh {op : Txn} {a : RegAddr} {d : Word} {s : State} {b : Byte}
    (hm : (s.latch op a d).microOf op 1 = some (.wr .wdh b)) :
    start op a d s = advance op 1 ((s.latch op a d).putWdh b).openWindow :=
  fsmCycle_of_done (s.latch_phase op a d) hm rfl

/-! ### REG_WRITE (R124) -/

/-- Settles O27, micro-step by micro-step: what the step is, and what a done access does. -/
theorem regWriteMicroProgram : Obligations.RegWriteMicroProgram := by
  refine ⟨fun w a d => decode_ok_iff, fun s a d hp => exec_reentry trivial not_false hp, fun s a d hp => ?start,
    fun s k hk hp => ?polls, fun s hp hb => ?trigger, fun s hp => ?clearHigh, fun s hp hb => ?clearTrigger⟩
  case start => exact (exec_regWrite_idle a d hp).trans (congrArg Host.Outcome.next (start_of_wdh rfl))
  case polls => rw [State.micro_run hp]; obtain rfl | rfl | rfl := hk <;> rfl
  case trigger => exact fsmCycle_of_trigger hp rfl hb
  case clearHigh => exact fsmCycle_of_done hp rfl rfl
  case clearTrigger => exact fsmCycle_of_trigger hp rfl hb

/-! ### REG_READ (R126, R127) -/

/-- The high byte shifted above the low one. -/
theorem compose_eq_or (hi lo : Byte) : compose hi lo = hi.setWidth 16 <<< 8 ||| lo.setWidth 16 := by
  simp only [compose, BitVec.append_def, BitVec.shiftLeftZeroExtend_eq, BitVec.setWidth'_eq]

/-- Settles O28, micro-step by micro-step as REG_WRITE; the last one delivers the two bytes read. -/
theorem regReadMicroProgram : Obligations.RegReadMicroProgram := by
  refine ⟨fun w a => decode_ok_iff, fun s a hp => exec_reentry trivial not_false hp, fun s a hp => ?start,
    fun s k hk hp => ?polls, fun s hp => ?pollData, fun s hp hb => ?trigger, fun s hp => ?clearHigh,
    fun s hp hb => ?clearTrigger, fun s hp => ?readLow, fun s hp => ?readHigh⟩
  case start => exact (exec_regRead_idle a hp).trans (congrArg Host.Outcome.next (start_of_wdh rfl))
  case polls => rw [State.micro_run hp]; obtain rfl | rfl := hk <;> rfl
  case pollData => rw [State.micro_run hp]; rfl
  case trigger => exact fsmCycle_of_trigger hp rfl hb
  case clearHigh => exact fsmCycle_of_done hp rfl rfl
  case clearTrigger => exact fsmCycle_of_trigger hp rfl hb
  case readLow => exact fsmCycle_of_done hp rfl rfl
  case readHigh => rw [← compose_eq_or]; exact fsmCycle_of_done hp rfl rfl

end Sys2Proof.Machine
end

section
/-! SUPPORT. The family 42_sample_pipe.md: the start of a transaction whose first micro-step is a poll, and the
obligations that follow (R140, R142). -/

namespace Sys2Proof.Machine

/-! ### Starts that poll (R120 to R122)

The first cycle is one attempt of the poll, made by the latched state, whose poll count is 0. -/

section
variable {op : Txn} {a : RegAddr} {d : Word} {s : State} {f : StatusBit} {want : Bool}

/-- Inside the settle window the first cycle only settles. -/
theorem start_of_poll_settling (hm : (s.latch op a d).micro = some (.poll f want)) (hs : 0 < s.sc) :
    start op a d s = { s.latch op a d with sc := s.sc - 1 } := by
  obtain ⟨hsettling, -⟩ := pollAttempt (s.latch op a d) op 1 f want rfl hm
  exact hsettling hs

/-- Where the status bit has the wanted value, the first cycle satisfies the poll. -/
theorem start_of_poll_satisfied (hm : (s.latch op a d).micro = some (.poll f want)) (hs : s.sc = 0)
    (hb : s.status f = want) :
    start op a d s =
      { s.latch op a d with sc := s.cfg.nSettle, draws := s.draws + 1, phase := .run op 2 } := by
  obtain ⟨-, hsatisfied, -⟩ := pollAttempt (s.latch op a d) op 1 f want rfl hm
  exact hsatisfied hs hb

/-- Where it has not and the limit is above 1, the first cycle counts one failed read. -/
theorem start_of_poll_failed (hm : (s.latch op a d).micro = some (.poll f want)) (hs : s.sc = 0)
    (hb : s.status f ≠ want) (h0 : s.cfg.pollLimit ≠ some 0) (h1 : s.cfg.pollLimit ≠ some 1) :
    start op a d s = { s.latch op a d with sc := s.cfg.nSettle, draws := s.draws + 1, pcnt := 1 } := by
  have hlimit : ∀ n, s.cfg.pollLimit = some n → 1 < n := fun n hn => by
    have hn0 : n ≠ 0 := fun e => h0 (e ▸ hn)
    have hn1 : n ≠ 1 := fun e => h1 (e ▸ hn)
    omega
  obtain ⟨-, -, hfailed, -⟩ := pollAttempt (s.latch op a d) op 1 f want rfl hm
  exact hfailed hs hb hlimit

/-- Where it has not and the limit is 1, the first cycle ends the transaction in TIMEOUT. -/
theorem start_of_poll_timeout (hm : (s.latch op a d).micro = some (.poll f want)) (hs : s.sc = 0)
    (hb : s.status f ≠ want) (h1 : s.cfg.pollLimit = some 1) :
    start op a d s =
      { s.latch op a d with sc := s.cfg.nSettle, draws := s.draws + 1, pcnt := 1, phase := .idle,
                            results := s.results ++ [(s.issuer, .timeout)] } := by
  obtain ⟨-, -, -, htimeout⟩ := pollAttempt (s.latch op a d) op 1 f want rfl hm
  exact htimeout 1 hs hb h1 le_rfl

end

/-! ### SAMPLE_WRITE (R140) -/

theorem exec_sampleWrite_idle {s : State} (d : Word) (hp : s.phase = .idle) :
    exec (.sampleWrite d) s = .next (start .sampleWrite 0 d s) := whenIdle_idle hp

/-- The first micro-step of SAMPLE_WRITE polls for WR_BUSY = 0. -/
theorem latch_sampleWrite_micro (a : RegAddr) (d : Word) (s : State) :
    (s.latch .sampleWrite a d).micro = some (.poll .wrBusy false) := rfl

/-- Settles O29: the start by the outcomes of the poll of WR_BUSY, then micro-step by micro-step. -/
theorem sampleWriteMicroProgram : Obligations.SampleWriteMicroProgram := by
  refine ⟨fun w d => decode_ok_iff, fun s d hp => exec_reentry trivial not_false hp, fun s d hp hs hb => ?satisfied,
    fun s d hp hs => ?settling, fun s d hp hs hb h0 h1 => ?failed, fun s d hp hs hb h1 => ?timeout,
    fun s hp => State.micro_run hp, fun s hp => ?writeHigh, fun s hp hb => fsmCycle_of_trigger hp rfl hb⟩
  case satisfied =>
    rw [exec_sampleWrite_idle d hp, start_of_poll_satisfied (latch_sampleWrite_micro ..) hs hb]
    rfl
  case settling =>
    rw [exec_sampleWrite_idle d hp, start_of_poll_settling (latch_sampleWrite_micro ..) hs]
    rfl
  case failed =>
    have hne : s.status .wrBusy ≠ false := ne_false_of_eq_true hb
    rw [exec_sampleWrite_idle d hp, start_of_poll_failed (latch_sampleWrite_micro ..) hs hne h0 h1]
    rfl
  case timeout =>
    have hne : s.status .wrBusy ≠ false := ne_false_of_eq_true hb
    rw [exec_sampleWrite_idle d hp, start_of_poll_timeout (latch_sampleWrite_micro ..) hs hne h1, ← hp]
    rfl
  case writeHigh => exact fsmCycle_of_done hp rfl rfl

/-! ### SAMPLE_READ (R142) -/

theorem exec_sampleRead_idle {s : State} (hp : s.phase = .idle) :
    exec .sampleRead s = .next (start .sampleRead 0 0 s) := whenIdle_idle hp

/-- The first micro-step of SAMPLE_READ polls for DATA_AVAIL = 1. -/
theorem latch_sampleRead_micro (a : RegAddr) (d : Word) (s : State) :
    (s.latch .sampleRead a d).micro = some (.poll .dataAvail true) := rfl

/-- Settles O30: the start by the outcomes of the poll of DATA_AVAIL, then micro-step by micro-step; the last one
delivers the two bytes read. -/
theorem sampleReadMicroProgram : Obligations.SampleReadMicroProgram := by
  refine ⟨fun w => decode_ok_iff, fun s hp => exec_reentry trivial not_false hp, fun s hp hs hb => ?satisfied,
    fun s hp hs => ?settling, fun s hp hs hb h0 h1 => ?failed, fun s hp hs hb h1 => ?timeout,
    fun s hp => State.micro_run hp, fun s hp => ?readHigh, fun s hp => ?readLow⟩
  case satisfied =>
    rw [exec_sampleRead_idle hp, start_of_poll_satisfied (latch_sampleRead_micro ..) hs hb]
    rfl
  case settling =>
    rw [exec_sampleRead_idle hp, start_of_poll_settling (latch_sampleRead_micro ..) hs]
    rfl
  case failed =>
    have hne : s.status .dataAvail ≠ true := ne_true_of_eq_false hb
    rw [exec_sampleRead_idle hp, start_of_poll_failed (latch_sampleRead_micro ..) hs hne h0 h1]
    rfl
  case timeout =>
    have hne : s.status .dataAvail ≠ true := ne_true_of_eq_false hb
    rw [exec_sampleRead_idle hp, start_of_poll_timeout (latch_sampleRead_micro ..) hs hne h1, ← hp]
    rfl
  case readHigh => exact fsmCycle_of_done hp rfl rfl
  case readLow => rw [← compose_eq_or]; exact fsmCycle_of_done hp rfl rfl

end Sys2Proof.Machine
end

section
/-! SUPPORT. The family 43_mulaw.md: the segment search of both companders, the fields of a code in integer arithmetic,
and the obligations that follow (R160, R162, R164, R166, R180). -/

namespace Sys2Proof.Machine

/-! ### Transforms (R166) -/

theorem exec_encUlaw (pcm : Word) (s : State) :
    exec (.encUlaw pcm) s = .next (s.deliver s.issuer (.ok (.u8 (encodeUlaw pcm)))) := rfl

theorem exec_decUlaw (code : Byte) (s : State) :
    exec (.decUlaw code) s = .next (s.deliver s.issuer (.ok (.i16 (decodeUlaw code)))) := rfl

theorem exec_encAlaw (pcm : Word) (s : State) :
    exec (.encAlaw pcm) s = .next (s.deliver s.issuer (.ok (.u8 (encodeAlaw pcm)))) := rfl

theorem exec_decAlaw (code : Byte) (s : State) :
    exec (.decAlaw code) s = .next (s.deliver s.issuer (.ok (.i16 (decodeAlaw code)))) := rfl

/-- Settles O51: each transform delivers the value of its pure function, which does not see the state. -/
theorem transformsWriteOnlyTheirResult : Obligations.TransformsWriteOnlyTheirResult := by
  intro i ht
  cases i with
  | encUlaw pcm => exact ⟨_, exec_encUlaw pcm⟩
  | decUlaw code => exact ⟨_, exec_decUlaw code⟩
  | encAlaw pcm => exact ⟨_, exec_encAlaw pcm⟩
  | decAlaw code => exact ⟨_, exec_decAlaw code⟩
  | nop | regRead | regWrite | sampleRead | sampleWrite | csrRd | csrWr | wdhWr | wdlWr | rdhRd | rdlRd =>
    exact ht.elim

/-! ### The segment search (R160, R180) -/

/-- The search is the library's search for the first limit above the magnitude. -/
theorem segment_eq_findIdx (lim : List Nat) (m : Nat) : segment lim m = lim.findIdx (m < ·) := by
  induction lim with
  | nil => rfl
  | cons l rest ih => rw [segment, List.findIdx_cons, ih]; by_cases h : m < l <;> simp [h]

/-- The exclusive upper limits `b * 2^i` of the eight segments, each twice the one before (10_state.md R35). -/
def doublingLimits (b : Nat) : List Nat := (List.range 8).map (b * 2 ^ ·)

theorem limU_eq_doublingLimits : limU = doublingLimits 64 := rfl

theorem limA_eq_doublingLimits : limA = doublingLimits 32 := rfl

/-- The search gives `i` exactly where limit `i` is the first one above the magnitude. -/
theorem segment_doublingLimits_eq_iff (b m : Nat) {i : Nat} (hi : i < 8) :
    segment (doublingLimits b) m = i ↔ m < b * 2 ^ i ∧ ∀ j, j < i → b * 2 ^ j ≤ m := by
  rw [segment_eq_findIdx, List.findIdx_eq (by simpa [doublingLimits] using hi)]
  simp [doublingLimits]

/-- The search gives 8 exactly where the last limit is not above the magnitude. -/
theorem segment_doublingLimits_eq_eight_iff (b m : Nat) : segment (doublingLimits b) m = 8 ↔ b * 2 ^ 7 ≤ m := by
  have hlength : (doublingLimits b).length = 8 := by simp [doublingLimits]
  have hnone : segment (doublingLimits b) m = 8 ↔ ∀ j < 8, b * 2 ^ j ≤ m := by
    rw [segment_eq_findIdx, ← hlength, List.findIdx_eq_length]
    simp [doublingLimits]
  rw [hnone]
  refine ⟨fun h => h 7 (by decide), fun h j hj => ?_⟩
  calc b * 2 ^ j ≤ b * 2 ^ 7 := by gcongr <;> omega
    _ ≤ m := h

/-- Settles O52: both tables are doubling limits, from 64 and from 32. -/
theorem segmentSearchFindsSmallest : Obligations.SegmentSearchFindsSmallest := by
  unfold Obligations.SegmentSearchFindsSmallest
  rw [limU_eq_doublingLimits, limA_eq_doublingLimits]
  exact ⟨fun m _ hi => segment_doublingLimits_eq_iff 64 m hi, segment_doublingLimits_eq_eight_iff 64,
    fun m _ hi => segment_doublingLimits_eq_iff 32 m hi, segment_doublingLimits_eq_eight_iff 32⟩

/-! ### The fields of a code

A code holds its sign in bit 7, its segment in bits 6..4 and its mantissa in bits 3..0. -/

/-- Packing a segment below 8 above the low four bits of `n`. -/
theorem toNat_packSegment {i : Nat} (hi : i < 8) (n : Nat) :
    (BitVec.ofNat 8 (i <<< 4 ||| (n &&& 0x0F))).toNat = 16 * i + n % 16 := by
  have hmant : n &&& 0x0F = n % 16 := Nat.and_two_pow_sub_one_eq_mod n 4
  have hlow : n % 16 < 2 ^ 4 := Nat.mod_lt n (by decide)
  rw [hmant, ← Nat.shiftLeft_add_eq_or_of_lt hlow, Nat.shiftLeft_eq, BitVec.toNat_ofNat, Nat.mod_eq_of_lt (by omega)]
  omega

theorem toNat_mantissa (x : Byte) : (x &&& 0x0F).toNat = x.toNat % 16 := Nat.and_two_pow_sub_one_eq_mod x.toNat 4

theorem toNat_segment (x : Byte) : ((x &&& 0x70) >>> 4).toNat = x.toNat / 16 % 8 := by
  have hshift : (x &&& 0x70) >>> 4 = x >>> 4 &&& 7 := BitVec.ushiftRight_and_distrib x 0x70 4
  rw [hshift, BitVec.toNat_and, BitVec.toNat_ushiftRight, Nat.shiftRight_eq_div_pow]
  exact Nat.and_two_pow_sub_one_eq_mod _ 3

theorem and_signBit_ne_zero_iff (x : Byte) : x &&& 0x80 ≠ 0 ↔ 128 ≤ x.toNat := by
  have htwo : (0x80 : Byte) = BitVec.twoPow 8 7 := rfl
  have hmsb : x.getLsbD 7 = decide (128 ≤ x.toNat) := BitVec.msb_eq_decide x
  rw [htwo, BitVec.and_twoPow, hmsb]
  by_cases h : 128 ≤ x.toNat <;> simp [h]

/-! ### ENC_ULAW (R162, R163) -/

/-- The shift of the sample is the floor of its quarter. -/
theorem ediv_four_eq_fdiv (pcm : Int) : pcm / 4 = pcm.fdiv 4 := (Int.fdiv_eq_ediv_of_nonneg pcm (by decide)).symm

/-- The saturated code, whose segment search finds no limit. -/
theorem ulawCode_saturated : ulawCode 8192 = 0x7F := rfl

/-- Below saturation the code is the segment above the mantissa. -/
theorem ulawCode_toNat {v i : Nat} (hs : segment limU v = i) (hi : i < 8) :
    (ulawCode v).toNat = 16 * i + v / 2 ^ (i + 1) % 16 := by
  simp only [ulawCode, hs, if_neg hi.ne, toNat_packSegment hi, Nat.shiftRight_eq_div_pow]

/-- Settles O53, by the code of the biased magnitude at saturation and in the segment the search finds. -/
theorem encUlawFollowsTheFormula : Obligations.EncUlawFollowsTheFormula := by
  refine ⟨fun _ _ => decode_ok_iff, fun pcm s => ⟨_, exec_encUlaw pcm s, ?_⟩⟩
  intro q v hq hv
  obtain rfl : q = pcm.toInt / 4 := hq.trans (ediv_four_eq_fdiv _).symm
  have hcode : encodeUlaw pcm = ulawCode v ^^^ ulawMask pcm.toInt := by rw [hv]; rfl
  rw [hcode, ulawMask]
  refine ⟨fun hsat => ?saturated, fun i hi hlt hge => ?inSegment⟩
  case saturated =>
    rw [hsat, ulawCode_saturated]
    split <;> rfl
  case inSegment =>
    obtain ⟨hsearch, -⟩ := segmentSearchFindsSmallest
    rw [BitVec.toNat_xor, ulawCode_toNat ((hsearch v i hi).2 ⟨hlt, hge⟩) hi]
    split <;> rfl

/-! ### DEC_ULAW (R164) -/

theorem ulawExpand_eq (u : Byte) : ulawExpand u = (u.toNat % 16 * 8 + 132) * 2 ^ (u.toNat / 16 % 8) := by
  rw [ulawExpand, toNat_mantissa, toNat_segment, Nat.shiftLeft_eq, Nat.shiftLeft_eq]

/-- The expanded magnitude fits a sample: mantissa 15 in segment 7 gives the largest. -/
theorem ulawExpand_le (u : Byte) : ulawExpand u ≤ 32256 := by
  rw [ulawExpand_eq]
  calc (u.toNat % 16 * 8 + 132) * 2 ^ (u.toNat / 16 % 8) ≤ (15 * 8 + 132) * 2 ^ 7 := by gcongr <;> omega
    _ = 32256 := by decide

/-- A value in the range of a sample survives the narrowing. -/
theorem toInt_ofInt_sample {x : Int} (hlo : -32768 ≤ x) (hhi : x < 32768) : (BitVec.ofInt 16 x).toInt = x :=
  BitVec.toInt_ofInt_eq_self (by decide) hlo hhi

/-- The sample is the biased magnitude's distance from the bias, signed by bit 7 of the
complement. -/
theorem decodeUlaw_toInt (code : Byte) :
    (decodeUlaw code).toInt =
      if 128 ≤ (~~~code).toNat then 132 - (ulawExpand (~~~code) : Int) else (ulawExpand (~~~code) : Int) - 132 := by
  have hle := ulawExpand_le (~~~code)
  simp only [decodeUlaw, and_signBit_ne_zero_iff]
  split
  · exact toInt_ofInt_sample (by omega) (by omega)
  · exact toInt_ofInt_sample (by omega) (by omega)

/-- Settles O54, by the sample in integer arithmetic of the complement's fields. -/
theorem decUlawFollowsTheFormula : Obligations.DecUlawFollowsTheFormula := by
  refine ⟨fun _ _ => decode_ok_iff, fun code s => ⟨_, exec_decUlaw code s, ?_⟩⟩
  rintro u t hu rfl
  obtain rfl : u = (~~~code).toNat := hu.trans (BitVec.toNat_not (x := code)).symm
  rw [decodeUlaw_toInt, ulawExpand_eq]

end Sys2Proof.Machine
end

section
/-! SUPPORT. The family 44_alaw.md: the magnitude, the code and the expanded magnitude in integer arithmetic, and the
obligations that follow (R182, R184). -/

namespace Sys2Proof.Machine

/-! ### ENC_ALAW (R182) -/

/-- The magnitude as an integer: the scaled sample, or its one's complement where that is negative. -/
theorem alawMagnitude_eq (pcm : Int) :
    (alawMagnitude pcm : Int) = if 0 ≤ pcm.tdiv 8 then pcm.tdiv 8 else -pcm.tdiv 8 - 1 := by
  rw [alawMagnitude, alawScaled]
  split
  · exact Int.toNat_of_nonneg ‹_›
  · exact Int.toNat_of_nonneg (by omega)

/-- The magnitude of a sample has 12 bits, so the last segment limit is above it. -/
theorem alawMagnitude_le (pcm : Word) : alawMagnitude pcm.toInt ≤ 4095 := by
  have hlo : -4096 ≤ pcm.toInt.tdiv 8 := Int.tdiv_le_tdiv (by decide) pcm.le_toInt
  have hhi : pcm.toInt.tdiv 8 ≤ 4095 := Int.tdiv_le_tdiv (by decide) (Int.le_sub_one_of_lt pcm.toInt_lt)
  have heq := alawMagnitude_eq pcm.toInt
  split at heq <;> omega

theorem alawMask_toNat (pcm : Int) : (alawMask pcm).toNat = if 0 ≤ pcm.tdiv 8 then 0xD5 else 0x55 :=
  apply_ite BitVec.toNat _ _ _

/-- Below saturation the code is the segment above the mantissa, which segments 0 and 1 cut at the same bit. -/
theorem alawCode_toNat {v i : Nat} (hs : segment limA v = i) (hi : i < 8) :
    (alawCode v).toNat = 16 * i + v / (if i < 2 then 2 else 2 ^ i) % 16 := by
  simp only [alawCode, hs, if_neg hi.ne]
  split
  · rw [toNat_packSegment hi, Nat.shiftRight_eq_div_pow, pow_one]
  · rw [toNat_packSegment hi, Nat.shiftRight_eq_div_pow]

/-- Settles O55, by the code of the magnitude in the segment the search finds. -/
theorem encAlawFollowsTheFormula : Obligations.EncAlawFollowsTheFormula := by
  refine ⟨fun _ _ => decode_ok_iff, fun pcm s => ⟨_, exec_encAlaw pcm s, ?_⟩⟩
  rintro q v rfl hv
  obtain rfl : v = alawMagnitude pcm.toInt := Int.ofNat_inj.1 (hv.trans (alawMagnitude_eq _).symm)
  refine ⟨alawMagnitude_le pcm, fun i hi hlt hge => ?_⟩
  obtain ⟨-, -, hsearch, -⟩ := segmentSearchFindsSmallest
  rw [encodeAlaw, BitVec.toNat_xor, alawCode_toNat ((hsearch _ i hi).2 ⟨hlt, hge⟩) hi, alawMask_toNat]

/-! ### DEC_ALAW (R184) -/

/-- The base term 264 stands in every segment from 1 to 7; segment 1 is the one shifted by 0. -/
theorem alawExpand_eq (x : Byte) :
    alawExpand x =
      if x.toNat / 16 % 8 = 0 then x.toNat % 16 * 16 + 8
      else (x.toNat % 16 * 16 + 264) * 2 ^ (x.toNat / 16 % 8 - 1) := by
  simp only [alawExpand, toNat_mantissa, toNat_segment, Nat.shiftLeft_eq]
  split
  · rfl
  · split
    · next h => rw [h, Nat.sub_self, pow_zero, Nat.mul_one]
    · rfl

/-- The expanded magnitude fits a sample: mantissa 15 in segment 7 gives the largest. -/
theorem alawExpand_le (x : Byte) : alawExpand x ≤ 32256 := by
  rw [alawExpand_eq]
  split
  · omega
  · calc (x.toNat % 16 * 16 + 264) * 2 ^ (x.toNat / 16 % 8 - 1) ≤ (15 * 16 + 264) * 2 ^ 6 := by gcongr <;> omega
      _ = 32256 := by decide

/-- The sample is the expanded magnitude, negated where bit 7 of the unmasked code is clear. -/
theorem decodeAlaw_toInt (code : Byte) :
    (decodeAlaw code).toInt =
      if 128 ≤ (code ^^^ 0x55).toNat then (alawExpand (code ^^^ 0x55) : Int)
      else -(alawExpand (code ^^^ 0x55) : Int) := by
  have hle := alawExpand_le (code ^^^ 0x55)
  simp only [decodeAlaw, and_signBit_ne_zero_iff]
  split
  · exact toInt_ofInt_sample (by omega) (by omega)
  · exact toInt_ofInt_sample (by omega) (by omega)

/-- Settles O56, by the sample in integer arithmetic of the fields of the unmasked code. -/
theorem decAlawFollowsTheFormula : Obligations.DecAlawFollowsTheFormula := by
  refine ⟨fun _ _ => decode_ok_iff, fun code s => ⟨_, exec_decAlaw code s, ?_⟩⟩
  rintro x t g m hx rfl rfl rfl
  obtain rfl : x = (code ^^^ 0x55).toNat := hx.trans (BitVec.toNat_xor code 0x55).symm
  rw [decodeAlaw_toInt, alawExpand_eq]

end Sys2Proof.Machine
end

section
/-! SUPPORT. The family 60_exceptions.md: starting an operation outside IDLE (R205). -/

namespace Sys2Proof.Machine

/-- Settles O23: outside IDLE the guard raises Reentry, and a transform, which has no guard, writes only its result. -/
theorem reentryFaults : Obligations.ReentryFaults := by
  refine ⟨fun i s hw ht hp => exec_reentry hw ht hp, fun i s ht => ?transform⟩
  case transform =>
    obtain ⟨v, hexec⟩ := transformsWriteOnlyTheirResult i ht
    exact ⟨_, hexec s, rfl⟩

end Sys2Proof.Machine
end

section
/-! SUPPORT. The family 30_encoding.md, its round trips: a word is its fields, the fields of a masked and of a joined
word, and the obligations that follow (R70 to R72, R79). -/

namespace Sys2Proof

/-! ### A word is its fields (R70, R71) -/

theorem CmdWord.operandA_eq (w : CmdWord) : w.operandA = w.fieldA.setWidth 5 := by
  ext; simp [CmdWord.operandA, CmdWord.fieldA]; omega

theorem CmdWord.operandB_eq (w : CmdWord) : w.operandB = w.fieldD.setWidth 8 := by
  rw [CmdWord.operandB, CmdWord.fieldD, BitVec.setWidth_eq_extractLsb' (by decide),
    BitVec.extractLsb'_extractLsb'_of_le (by decide)]

theorem CmdWord.highD_eq (w : CmdWord) : w.highD = w.fieldD.extractLsb' 8 8 := by
  rw [CmdWord.highD, CmdWord.fieldD, BitVec.extractLsb'_extractLsb'_of_le (by decide)]

/-- `D` is its high byte above the byte operand. -/
theorem CmdWord.fieldD_eq_append (w : CmdWord) : w.fieldD = w.highD ++ w.operandB :=
  (BitVec.extractLsb'_append_extractLsb'_eq_extractLsb' (x := w) (start₁ := 0) (len₁ := 8) (len₂ := 8) rfl).symm

theorem CmdWord.fields_append (w : CmdWord) : w.op ++ w.rsv ++ w.fieldA ++ w.fieldD = w := by
  unfold CmdWord.op CmdWord.rsv CmdWord.fieldA CmdWord.fieldD
  rw [BitVec.extractLsb'_append_extractLsb'_eq_extractLsb' (by decide),
    BitVec.extractLsb'_append_extractLsb'_eq_extractLsb' (by decide),
    BitVec.extractLsb'_append_extractLsb'_eq_extractLsb' (by decide)]
  exact BitVec.extractLsb'_eq_self

/-- The fields of a word put together from its four parts, `RSV` at any value. -/
theorem fields_of_append (o r : BitVec 4) (a : Byte) (d : Word) :
    CmdWord.op (o ++ r ++ a ++ d) = o ∧ CmdWord.rsv (o ++ r ++ a ++ d) = r ∧
      CmdWord.fieldA (o ++ r ++ a ++ d) = a ∧ CmdWord.fieldD (o ++ r ++ a ++ d) = d := by
  have bit {n : Nat} (lo j : Nat) (hj : j < n) :
      (BitVec.extractLsb' lo n (o ++ r ++ a ++ d)).getLsbD j =
        if lo + j < 16 then d.getLsbD (lo + j) else if lo + j < 24 then a.getLsbD (lo + j - 16)
        else if lo + j < 28 then r.getLsbD (lo + j - 24) else o.getLsbD (lo + j - 28) := by
    simp only [BitVec.getLsbD_extractLsb', BitVec.getLsbD_append]
    grind
  refine ⟨?_, ?_, ?_, ?_⟩ <;> refine BitVec.eq_of_getLsbD_eq fun j hj => (bit _ j hj).trans ?_ <;> grind

/-- Words put together from four parts are the same exactly where the parts are. -/
theorem append_fields_inj {o o' r r' : BitVec 4} {a a' : Byte} {d d' : Word} :
    o ++ r ++ a ++ d = o' ++ r' ++ a' ++ d' ↔ o = o' ∧ r = r' ∧ a = a' ∧ d = d' := by
  refine ⟨fun h => ?_, fun ⟨ho, hr, ha, hd⟩ => by rw [ho, hr, ha, hd]⟩
  obtain ⟨ho, hr, ha, hd⟩ := fields_of_append o r a d
  obtain ⟨ho', hr', ha', hd'⟩ := fields_of_append o' r' a' d'
  rw [h] at ho hr ha hd
  exact ⟨ho.symm.trans ho', hr.symm.trans hr', ha.symm.trans ha', hd.symm.trans hd'⟩

/-- A mask that keeps `OP` and `RSV` masks `A` and `D` apart. -/
theorem CmdWord.and_mask (w : CmdWord) (mA : Byte) (mD : Word) :
    w &&& (0xF#4 ++ 0xF#4 ++ mA ++ mD) = w.op ++ w.rsv ++ (w.fieldA &&& mA) ++ (w.fieldD &&& mD) := by
  have hop : w.op &&& 0xF#4 = w.op := BitVec.and_allOnes
  have hrsv : w.rsv &&& 0xF#4 = w.rsv := BitVec.and_allOnes
  conv_lhs => rw [← w.fields_append, BitVec.and_append, BitVec.and_append, BitVec.and_append, hop, hrsv]

/-! ### Encoding and decoding (R70 to R72) -/

theorem commandFields (i : Instr) : Laws.CommandFields.Statement i := Laws.commandWord_fields _ _ _

/-- Settles O1: the decoder reads each field where the encoder puts it. -/
theorem decodeOfEncode : Obligations.DecodeOfEncode := by
  intro i hw
  obtain ⟨hop, hrsv, hA, hD⟩ := commandFields i
  have haddr (a : RegAddr) (h : encodeA i = a.setWidth 8) : (encode i).operandA = a := by
    rw [CmdWord.operandA_eq, hA, h, BitVec.setWidth_setWidth_of_le _ (by decide), BitVec.setWidth_eq]
  have hbyte (b : Byte) (h : encodeD i = b.setWidth 16) : (encode i).highD = 0 ∧ (encode i).operandB = b := by
    rw [CmdWord.operandB_eq, CmdWord.highD_eq, hD, h]
    exact ⟨by ext; simp, by simp⟩
  refine decode_ok_iff.2 ⟨hop, hrsv, ?_⟩
  cases i with
  | nop | sampleRead | csrRd | rdhRd | rdlRd | sampleWrite | encUlaw | encAlaw => exact ⟨hA, hD⟩
  | regRead a | regWrite a => exact ⟨haddr a rfl, hD⟩
  | decUlaw b | decAlaw b | wdhWr b | wdlWr b => exact ⟨hA, hbyte b rfl⟩
  | csrWr b =>
    obtain ⟨hhigh, hlow⟩ := hbyte b rfl
    exact ⟨hA, hhigh, hlow, hw⟩

/-- The encoding of an operation is the word with its fields. -/
theorem encode_eq_of_fields {i : Instr} {w : CmdWord} (hop : w.op = opcode i) (hrsv : w.rsv = 0)
    (hA : w.fieldA = encodeA i) (hD : w.fieldD = encodeD i) : encode i = w := by
  rw [encode, ← hop, ← hrsv, ← hA, ← hD, w.fields_append]

/-- The encoding of a register operation is the word with its fields, `A[7:5]` cleared. -/
theorem encode_eq_and_of_fields {i : Instr} {w : CmdWord} (hop : w.op = opcode i) (hrsv : w.rsv = 0)
    (hA : w.operandA.setWidth 8 = encodeA i) (hD : w.fieldD = encodeD i) : encode i = w &&& 0xFF1FFFFF := by
  have hmask : (0xFF1FFFFF : CmdWord) = 0xF#4 ++ 0xF#4 ++ 0x1F#8 ++ 0xFFFF#16 := rfl
  have haddr : ∀ x : Byte, (x.setWidth 5).setWidth 8 = x &&& 0x1F#8 := by decide
  have hdata : w.fieldD &&& 0xFFFF#16 = w.fieldD := BitVec.and_allOnes
  rw [hmask, w.and_mask, encode, ← hop, ← hrsv, ← hA, ← hD, CmdWord.operandA_eq, haddr, hdata]

/-- Settles O2: the fields that the decoder checked make up the word. -/
theorem encodeOfDecode : Obligations.EncodeOfDecode := by
  intro w i h
  obtain ⟨hop, hrsv, hf⟩ := decode_ok_iff.1 h
  have hbyte {b : Byte} (hhigh : w.highD = 0) (hb : w.operandB = b) : w.fieldD = b.setWidth 16 := by
    rw [w.fieldD_eq_append, hhigh, hb]; exact (BitVec.setWidth_eq_append (by decide)).symm
  cases i with
  | nop | sampleRead | csrRd | rdhRd | rdlRd | sampleWrite | encUlaw | encAlaw =>
    obtain ⟨hA, hD⟩ := hf
    exact ⟨trivial, encode_eq_of_fields hop hrsv hA hD⟩
  | regRead a | regWrite a =>
    obtain ⟨rfl, hD⟩ := hf
    exact ⟨trivial, encode_eq_and_of_fields hop hrsv rfl hD⟩
  | decUlaw | decAlaw | wdhWr | wdlWr =>
    obtain ⟨hA, hhigh, hb⟩ := hf
    exact ⟨trivial, encode_eq_of_fields hop hrsv hA (hbyte hhigh hb)⟩
  | csrWr b =>
    obtain ⟨hA, hhigh, hb, hok⟩ := hf
    exact ⟨hok, encode_eq_of_fields hop hrsv hA (hbyte hhigh hb)⟩

/-! ### The opcode table (R72) -/

/-- A mask on `D` that shows bytes `hi` and `lo` finds 0 exactly where both masked bytes are 0. -/
theorem CmdWord.fieldD_and_eq_zero_iff (w : CmdWord) (hi lo : Byte) :
    w.fieldD &&& (hi ++ lo) = 0 ↔ w.highD &&& hi = 0 ∧ w.operandB &&& lo = 0 := by
  rw [w.fieldD_eq_append, BitVec.and_append]
  generalize w.highD &&& hi = x, w.operandB &&& lo = y
  have hnat : (x ++ y).toNat = 0 ↔ x.toNat = 0 ∧ y.toNat = 0 := by
    rw [BitVec.toNat_append, Nat.or_eq_zero_iff, Nat.shiftLeft_eq_zero_iff]
  exact (BitVec.toNat_inj (y := 0#16)).symm.trans
    (hnat.trans (and_congr (BitVec.toNat_inj (y := 0#8)) (BitVec.toNat_inj (y := 0#8))))

/-- The mask of a row with a byte operand shows `D[15:8]`. -/
theorem CmdWord.fieldD_and_high_eq_zero (w : CmdWord) : w.fieldD &&& 0xFF00 = 0 ↔ w.highD = 0 := by
  have h := w.fieldD_and_eq_zero_iff (BitVec.allOnes 8) 0#8
  rw [BitVec.and_allOnes] at h
  exact h.trans (and_iff_left BitVec.and_zero)

/-- The mask of CSR_WR shows `D[15:8]` and the reserved bits of the byte. -/
theorem CmdWord.fieldD_and_csr_eq_zero (w : CmdWord) :
    w.fieldD &&& 0xFF7D = 0 ↔ w.highD = 0 ∧ CsrByteOk w.operandB := by
  have h := w.fieldD_and_eq_zero_iff (BitVec.allOnes 8) csrReservedMask
  rwa [BitVec.and_allOnes] at h

/-- What the words of an operation's row have in common, above `OP` and `RSV`: the fields that must be 0. -/
def Instr.Shape (w : CmdWord) : Instr → Prop
  | .nop | .sampleRead | .csrRd | .rdhRd | .rdlRd => w.fieldA = 0 ∧ w.fieldD = 0
  | .regRead _ => w.fieldD = 0
  | .regWrite _ _ => True
  | .sampleWrite _ | .encUlaw _ | .encAlaw _ => w.fieldA = 0
  | .decUlaw _ | .decAlaw _ | .wdhWr _ | .wdlWr _ => w.fieldA = 0 ∧ w.highD = 0
  | .csrWr _ => w.fieldA = 0 ∧ w.highD = 0 ∧ CsrByteOk w.operandB

theorem Instr.Fields.shape {w : CmdWord} {i : Instr} (h : i.Fields w) : i.Shape w := by
  cases i with
  | nop | sampleRead | csrRd | rdhRd | rdlRd => exact h
  | regRead => exact h.2
  | regWrite => trivial
  | sampleWrite | encUlaw | encAlaw => exact h.1
  | decUlaw | decAlaw | wdhWr | wdlWr => exact ⟨h.1, h.2.1⟩
  | csrWr b =>
    obtain ⟨hA, hhigh, rfl, hok⟩ := h
    exact ⟨hA, hhigh, hok⟩

/-- A word of the shape has operands to read. -/
theorem Instr.Shape.exists_fields {w : CmdWord} {i : Instr} (h : i.Shape w) :
    ∃ j, opcode j = opcode i ∧ j.Fields w := by
  cases i with
  | nop | sampleRead | csrRd | rdhRd | rdlRd => exact ⟨_, rfl, h⟩
  | regRead => exact ⟨.regRead w.operandA, rfl, rfl, h⟩
  | regWrite => exact ⟨.regWrite w.operandA w.fieldD, rfl, rfl, rfl⟩
  | sampleWrite => exact ⟨.sampleWrite w.fieldD, rfl, h, rfl⟩
  | encUlaw => exact ⟨.encUlaw w.fieldD, rfl, h, rfl⟩
  | encAlaw => exact ⟨.encAlaw w.fieldD, rfl, h, rfl⟩
  | decUlaw => exact ⟨.decUlaw w.operandB, rfl, h.1, h.2, rfl⟩
  | decAlaw => exact ⟨.decAlaw w.operandB, rfl, h.1, h.2, rfl⟩
  | wdhWr => exact ⟨.wdhWr w.operandB, rfl, h.1, h.2, rfl⟩
  | wdlWr => exact ⟨.wdlWr w.operandB, rfl, h.1, h.2, rfl⟩
  | csrWr => exact ⟨.csrWr w.operandB, rfl, h.1, h.2.1, rfl, h.2.2⟩

/-- The bits of `A` that the row of an operation fixes. -/
def Instr.maskA : Instr → Byte
  | .regRead _ | .regWrite _ _ => 0
  | .nop | .sampleRead | .sampleWrite _ | .encUlaw _ | .decUlaw _ | .encAlaw _ | .decAlaw _ | .csrRd | .csrWr _
  | .wdhWr _ | .wdlWr _ | .rdhRd | .rdlRd => 0xFF

/-- The bits of `D` that the row of an operation fixes. -/
def Instr.maskD : Instr → Word
  | .nop | .regRead _ | .sampleRead | .csrRd | .rdhRd | .rdlRd => 0xFFFF
  | .decUlaw _ | .decAlaw _ | .wdhWr _ | .wdlWr _ => 0xFF00
  | .csrWr _ => 0xFF7D
  | .regWrite _ _ | .sampleWrite _ | .encUlaw _ | .encAlaw _ => 0

/-- A row fixes `OP` to its operation's, `RSV` to 0 and its bits of `A` and `D` to 0. -/
theorem row_eq {i : Instr} {r : OpcodeRow} (hr : opcodeTable[(opcode i).toNat]? = some r) :
    r.mask = 0xF#4 ++ 0xF#4 ++ i.maskA ++ i.maskD ∧ r.pattern = opcode i ++ 0#4 ++ 0#8 ++ 0#16 := by
  cases i <;> cases hr <;> simp only [opcode, Instr.maskA, Instr.maskD] <;> decide

/-- A row's words are the words with its operation's `OP`, `RSV` 0 and the fixed bits of `A` and `D` 0. -/
theorem matches_row_iff_masks {i : Instr} {r : OpcodeRow} {w : CmdWord}
    (hr : opcodeTable[(opcode i).toNat]? = some r) :
    r.Matches w ↔ w.op = opcode i ∧ w.rsv = 0 ∧ w.fieldA &&& i.maskA = 0 ∧ w.fieldD &&& i.maskD = 0 := by
  obtain ⟨hmask, hpattern⟩ := row_eq hr
  rw [OpcodeRow.Matches, hmask, hpattern, w.and_mask, append_fields_inj]
  rfl

/-- The fixed bits are 0 exactly where the word has the shape. -/
theorem Instr.shape_iff_masks {i : Instr} {w : CmdWord} :
    i.Shape w ↔ w.fieldA &&& i.maskA = 0 ∧ w.fieldD &&& i.maskD = 0 := by
  have hA : w.fieldA &&& 0xFF = w.fieldA := BitVec.and_allOnes
  have hD : w.fieldD &&& 0xFFFF = w.fieldD := BitVec.and_allOnes
  have hA0 : w.fieldA &&& 0 = 0 := BitVec.and_zero
  have hD0 : w.fieldD &&& 0 = 0 := BitVec.and_zero
  cases i <;>
    simp only [Instr.Shape, Instr.maskA, Instr.maskD, hA, hD, hA0, hD0, w.fieldD_and_high_eq_zero,
      w.fieldD_and_csr_eq_zero, true_and, and_true]

/-- A row's words are the words of its operation's `OP`, with `RSV` 0 and the operation's shape. -/
theorem matches_row_iff {i : Instr} {r : OpcodeRow} {w : CmdWord}
    (hr : opcodeTable[(opcode i).toNat]? = some r) :
    r.Matches w ↔ w.op = opcode i ∧ w.rsv = 0 ∧ i.Shape w := by
  rw [Instr.shape_iff_masks, matches_row_iff_masks hr]

/-- Every row is the row of an operation. -/
theorem exists_row_of_mem : ∀ r ∈ opcodeTable, ∃ i, opcodeTable[(opcode i).toNat]? = some r := by
  simp only [opcodeTable, List.forall_mem_cons]
  exact ⟨⟨.nop, rfl⟩, ⟨.regRead 0, rfl⟩, ⟨.regWrite 0 0, rfl⟩, ⟨.sampleRead, rfl⟩, ⟨.sampleWrite 0, rfl⟩,
    ⟨.encUlaw 0, rfl⟩, ⟨.decUlaw 0, rfl⟩, ⟨.encAlaw 0, rfl⟩, ⟨.decAlaw 0, rfl⟩, ⟨.csrRd, rfl⟩, ⟨.csrWr 0, rfl⟩,
    ⟨.wdhWr 0, rfl⟩, ⟨.wdlWr 0, rfl⟩, ⟨.rdhRd, rfl⟩, ⟨.rdlRd, rfl⟩, List.forall_mem_nil _⟩

/-- Every operation has a row. -/
theorem exists_row (i : Instr) : ∃ r, opcodeTable[(opcode i).toNat]? = some r := by
  cases i <;> exact ⟨_, rfl⟩

/-- Settles O4: a row's words are those that have the `OP` and the shape of its operation. -/
theorem decodeAgreesWithOpcodeTable : Obligations.DecodeAgreesWithOpcodeTable := by
  refine ⟨fun w r hmem hmatch => ?_, fun w i hd => ?_⟩
  · obtain ⟨i, hr⟩ := exists_row_of_mem r hmem
    obtain ⟨hop, hrsv, hshape⟩ := (matches_row_iff hr).1 hmatch
    obtain ⟨j, hj, hf⟩ := hshape.exists_fields
    exact ⟨j, decode_ok_iff.2 ⟨hop.trans hj.symm, hrsv, hf⟩, hj ▸ hr⟩
  · obtain ⟨r, hr⟩ := exists_row i
    obtain ⟨hop, hrsv, hf⟩ := decode_ok_iff.1 hd
    exact ⟨r, hr, (matches_row_iff hr).2 ⟨hop, hrsv, hf.shape⟩⟩

/-! ### Lines of assembly (R79) -/

/-- An address operand stands in `A`, its bits above 7 dropped. -/
theorem asmAddr_eq (addr : Nat) : asmAddr addr = 0#4 ++ 0#4 ++ BitVec.ofNat 8 addr ++ 0#16 := by
  have hmask : addr &&& 0xFF = addr % 256 := Nat.and_two_pow_sub_one_eq_mod addr 8
  have hlt : (addr % 256) <<< 16 < 2 ^ 32 := by rw [Nat.shiftLeft_eq]; omega
  have hleft : (asmAddr addr).toNat = (addr % 256) <<< 16 := by
    rw [asmAddr, hmask, BitVec.toNat_ofNat, Nat.mod_eq_of_lt hlt]
  refine BitVec.eq_of_toNat_eq (hleft.trans ?_)
  rw [BitVec.toNat_append, BitVec.toNat_append]
  simp

/-- A value or sample stands in `D` as its 16-bit pattern. -/
theorem asmValue_eq (v : Int) : asmValue v = 0#4 ++ 0#4 ++ 0#8 ++ BitVec.ofInt 16 v :=
  BitVec.setWidth_eq_append (by decide)

/-- A byte operand stands in the low byte of `D`. -/
theorem asmByte_eq (b : Byte) : b.setWidth 32 = 0#4 ++ 0#4 ++ 0#8 ++ b.setWidth 16 := by
  have h : (b.setWidth 16).setWidth 32 = b.setWidth 32 := by
    apply BitVec.eq_of_toNat_eq
    simp
  exact h.symm.trans (BitVec.setWidth_eq_append (by decide))

/-- Joining words joins their fields. -/
theorem or_fields (o r o' r' : BitVec 4) (a a' : Byte) (d d' : Word) :
    (o ++ r ++ a ++ d) ||| (o' ++ r' ++ a' ++ d') = (o ||| o') ++ (r ||| r') ++ (a ||| a') ++ (d ||| d') := by
  rw [BitVec.or_append, BitVec.or_append, BitVec.or_append]

/-- A line with no address: `OP` joined with the word of its operand decodes to the operation. -/
theorem decode_line {i : Instr} {k v : CmdWord} (o : BitVec 4) (hi : i.WellFormed) (ho : opcode i = o)
    (hk : k = o ++ 0#4 ++ 0#8 ++ 0#16) (hv : v = 0#4 ++ 0#4 ++ encodeA i ++ encodeD i) : decode (k ||| v) = .ok i := by
  have hword : k ||| v = encode i := by
    rw [hk, hv, or_fields, encode, ho, BitVec.or_zero, BitVec.or_zero, BitVec.zero_or, BitVec.zero_or]
    rfl
  rw [hword]
  exact decodeOfEncode i hi

/-- The decoder reads the low five bits of an address in `A`. -/
theorem operandA_of_fieldA {w : CmdWord} {addr : Nat} (hA : w.fieldA = BitVec.ofNat 8 addr) :
    w.operandA = BitVec.ofNat 5 addr := by
  rw [CmdWord.operandA_eq, hA, BitVec.setWidth_ofNat_of_le (by decide)]

theorem decode_regReadLine (addr : Nat) :
    decode (0x1#4 ++ 0#4 ++ BitVec.ofNat 8 addr ++ 0#16) = .ok (.regRead (BitVec.ofNat 5 addr)) := by
  obtain ⟨hop, hrsv, hA, hD⟩ := fields_of_append 0x1#4 0#4 (BitVec.ofNat 8 addr) 0#16
  exact decode_ok_iff.2 ⟨hop, hrsv, operandA_of_fieldA hA, hD⟩

theorem decode_regWriteLine (addr : Nat) (d : Word) :
    decode (0x2#4 ++ 0#4 ++ BitVec.ofNat 8 addr ++ d) = .ok (.regWrite (BitVec.ofNat 5 addr) d) := by
  obtain ⟨hop, hrsv, hA, hD⟩ := fields_of_append 0x2#4 0#4 (BitVec.ofNat 8 addr) d
  exact decode_ok_iff.2 ⟨hop, hrsv, operandA_of_fieldA hA, hD⟩

/-- Settles O6: the word of each line, as its fields, decodes to the line's operation. -/
theorem assemblyLinesDecode : Obligations.AssemblyLinesDecode := by
  refine ⟨rfl, fun addr => ?_, fun addr v => ?_, rfl, fun v => ?_, fun p => ?_, fun b => ?_, fun p => ?_,
    fun b => ?_, rfl, fun b hb => ?_, fun b => ?_, fun b => ?_, rfl, rfl⟩
  · have hword : (Asm.regRead addr).word = 0x1#4 ++ 0#4 ++ BitVec.ofNat 8 addr ++ 0#16 := by
      have hk : (0x10000000 : CmdWord) = 0x1#4 ++ 0#4 ++ 0#8 ++ 0#16 := rfl
      simp only [Asm.word, asmAddr_eq, hk, or_fields, BitVec.or_zero, BitVec.zero_or]
    rw [hword]
    exact decode_regReadLine addr
  · have hword : (Asm.regWrite addr v).word = 0x2#4 ++ 0#4 ++ BitVec.ofNat 8 addr ++ BitVec.ofInt 16 v := by
      have hk : (0x20000000 : CmdWord) = 0x2#4 ++ 0#4 ++ 0#8 ++ 0#16 := rfl
      simp only [Asm.word, asmAddr_eq, asmValue_eq, hk, or_fields, BitVec.or_zero, BitVec.zero_or]
    rw [hword, BitVec.ofInt_natCast]
    exact decode_regWriteLine addr _
  · exact decode_line 0x4 trivial rfl rfl (asmValue_eq v)
  · exact decode_line 0x5 trivial rfl rfl (asmValue_eq p)
  · exact decode_line 0x6 trivial rfl rfl (asmByte_eq b)
  · exact decode_line 0x7 trivial rfl rfl (asmValue_eq p)
  · exact decode_line 0x8 trivial rfl rfl (asmByte_eq b)
  · exact decode_line 0xA hb rfl rfl (asmByte_eq b)
  · exact decode_line 0xB trivial rfl rfl (asmByte_eq b)
  · exact decode_line 0xC trivial rfl rfl (asmByte_eq b)

end Sys2Proof
end

section
/-! SUPPORT. The family of the steps: which command a step runs, that every operation answers, CSR_RD, and what no
operation, no cycle and no move changes. -/

namespace Sys2Proof.Machine

/-! ### Fixed words, reset, refused accesses -/

/-- Settles O5, by computing each word's fields. -/
theorem specWordsDecode : Obligations.SpecWordsDecode := ⟨rfl, rfl, rfl, rfl, rfl, rfl, rfl, rfl, rfl, rfl⟩

/-- Settles O13, by the equation of the move. -/
theorem wrongDirectionIsRefused : Obligations.WrongDirectionIsRefused := fun _ _ => rfl

/-- Settles O49, by the fields of `State.reset`. -/
theorem resetLeavesSpecValues : Obligations.ResetLeavesSpecValues :=
  ⟨rfl, rfl, rfl, rfl, rfl, rfl, rfl, rfl, rfl, rfl, rfl⟩

/-- In IDLE the clauses of the invariant that speak of a transaction hold of themselves. -/
theorem State.Inv.of_idle {s : State} (hp : s.phase = .idle) (hcfg : s.cfg.Valid) (hsc : s.sc ≤ s.cfg.nSettle)
    (hpcnt : ∀ n, s.cfg.pollLimit = some n → s.pcnt ≤ n) : s.Inv where
  cfgOk := hcfg
  settleOk := hsc
  indexOk := by simp only [State.IndexOk, hp]
  countOk := by simpa only [State.CountOk, hp] using hpcnt
  triggerOk := by simp only [State.TriggerOk, hp]
  latchOk := by simp only [State.LatchOk, hp]
  sentOk := by simp only [State.SentOk, hp]
  ownerOk := fun h => absurd hp h

theorem State.AfterReset.inv {s : State} (h : s.AfterReset) (hcfg : s.cfg.Valid) : s.Inv := by
  obtain ⟨hp, hsc, hpcnt, -⟩ := h
  exact .of_idle hp hcfg (by omega) fun n _ => by omega

/-- Settles O47: after reset the phase is IDLE and both counters are 0. -/
theorem resetMeetsInvariant : Obligations.ResetMeetsInvariant :=
  ⟨fun _ h hcfg => h.inv hcfg, State.AfterReset.inv (by decide) (by decide)⟩

/-! ### Which command a step runs (41_register_channel.md R122, 60_exceptions.md R206) -/

/-- An accepted word of a caller that may present runs. -/
theorem presentCommand_of_ok {c : Nat} {w : CmdWord} {i : Instr} {s : State} (hm : s.MayPresent c)
    (hd : decode w = .ok i) : presentCommand c w s = exec i (s.issue c) := by
  simp only [presentCommand, if_pos hm, hd]

/-- A step of a machine with no fault whose agenda is empty takes the free move. -/
theorem step_nil {s : State} (hf : s.NoFault) (h : s.agenda = []) :
    step s = takeTurn (Config.schedule s.draws) { s with draws := s.draws + 1 } := by
  have hstop : s.faults.stopsFor = none := FaultSet.stopsFor_eq_none.2 hf
  have hturn : s.turn = Config.schedule s.draws := by simp [State.turn, h]
  have hafter : s.afterTurn = s.drawn := by simp [State.afterTurn, h]
  simp only [step, scheduled, hstop, hturn, hafter]
  rfl

/-- A step whose chosen move presents an accepted word runs it. -/
theorem step_present {s : State} {c : Nat} {w : CmdWord} {i : Instr} {rest : List Turn} (hf : s.NoFault)
    (ha : s.agenda = .present c w :: rest) (hm : s.MayPresent c) (hd : decode w = .ok i) :
    step s = exec i { s with agenda := rest, issuer := c } :=
  (step_cons hf ha).trans (presentCommand_of_ok (s := { s with agenda := rest }) hm hd)

/-- Settles O8, by the step of a chosen and of a free move and what a presentation runs. -/
theorem stepRunsDecodedInstruction : Obligations.StepRunsDecodedInstruction :=
  ⟨fun _ _ _ _ _ hf ha hm hd => step_present hf ha hm hd, fun _ _ _ _ hm hd => presentCommand_of_ok hm hd,
    fun _ _ _ hf ha => step_cons hf ha, fun _ hf ha => step_nil hf ha⟩

/-- Any caller may present to an idle machine. -/
theorem State.mayPresent_of_idle {s : State} {c : Nat} (hp : s.phase = .idle) (hc : c < s.cfg.nCallers) :
    s.MayPresent c := ⟨hc, fun hw => hw.1 hp⟩

/-- A table word that decodes is a command word that does. -/
theorem decodeTableWord_eq_some {nbits w : Nat} {i : Instr} (h : decodeTableWord nbits w = some i) :
    ∃ cw, tableWord nbits w = some cw ∧ decode cw = .ok i := by
  obtain ⟨cw, hcw, hd⟩ := Option.bind_eq_some_iff.1 h
  refine ⟨cw, hcw, ?_⟩
  cases he : decode cw <;> simp_all

/-- Settles O9: the placed word is caller 0's, which may present in IDLE. -/
theorem placedWordRunsNext : Obligations.PlacedWordRunsNext := by
  intro s nbits w i hf hp hc h
  obtain ⟨cw, hcw, hd⟩ := decodeTableWord_eq_some h
  have hplace : s.withFetchWord nbits w = s.placeCommand cw := by
    simp only [State.withFetchWord, State.placeTableWord, hcw]
  rw [hplace]
  exact step_present (s := s.placeCommand cw) hf rfl (State.mayPresent_of_idle hp hc) hd

/-! ### Every operation answers (60_exceptions.md R200) -/

theorem whenIdle_total (s : State) (f : State → State) : ∃ t, whenIdle s f = .next t := by
  by_cases hp : s.phase = .idle
  · exact ⟨_, whenIdle_idle hp⟩
  · exact ⟨_, whenIdle_busy hp⟩

theorem exec_total (i : Instr) (s : State) : ∃ t, exec i s = .next t := by
  cases i with
  | encUlaw | decUlaw | encAlaw | decAlaw => exact ⟨_, rfl⟩
  | csrWr b =>
    by_cases hb : CsrByteOk b
    · obtain ⟨t, ht⟩ := whenIdle_total s _
      exact ⟨t, (if_pos hb).trans ht⟩
    · exact ⟨_, if_neg hb⟩
  | regRead | regWrite | sampleRead | sampleWrite => exact whenIdle_total s _
  | nop | csrRd | wdhWr | wdlWr | rdhRd | rdlRd =>
    simp only [exec, execNop, execCsrRd, execWdhWr, execWdlWr, execWrite, execRdhRd, execRdlRd, execRead]
    exact whenIdle_total s _

theorem takeTurn_total (m : Turn) (s : State) : ∃ t, takeTurn m s = .next t := by
  cases m with
  | fsm | linkTx | linkRx | linkAvClr | wrongDirection => exact ⟨_, rfl⟩
  | present c w =>
    by_cases hm : s.MayPresent c
    · cases hd : decode w with
      | ok i =>
        obtain ⟨t, ht⟩ := exec_total i (s.issue c)
        exact ⟨t, (presentCommand_of_ok hm hd).trans ht⟩
      | error e => exact ⟨_, presentCommand_of_error hm hd⟩
    · exact ⟨_, if_neg hm⟩

/-- A machine that is not quiescent makes its next move. -/
theorem step_of_noFault {s : State} (hf : s.NoFault) : step s = takeTurn s.turn s.afterTurn := by
  simp only [step, scheduled, FaultSet.stopsFor_eq_none.2 hf]

/-- A quiescent machine stops with the reason. -/
theorem step_of_stopsFor {s : State} {f : Fault} (hf : s.faults.stopsFor = some f) : step s = .fault f := by
  simp only [step, scheduled, hf]

/-- Settles O10: a machine with no fault makes its move, which always answers; the fault set gives the reason of a
stop. -/
theorem onlyFaultedStatesStop : Obligations.OnlyFaultedStatesStop := by
  refine ⟨exec_total, fun s hf => ?_, fun s h => step_of_stopsFor ?_, fun s h h' => step_of_stopsFor ?_⟩
  · rw [step_of_noFault hf]
    exact takeTurn_total s.turn s.afterTurn
  · simp only [FaultSet.stopsFor, if_pos h]
  · simp only [FaultSet.stopsFor, h, if_pos h', Bool.false_eq_true, if_false]

/-! ### CSR_RD (40_port_access.md R100, R112) -/

theorem exec_csrRd_idle {s : State} (hp : s.phase = .idle) :
    exec .csrRd s = .next (s.csrAccess.deliver s.issuer (.ok (.u8 s.csrValue))) := by
  simp only [exec, execCsrRd, whenIdle_idle hp, State.goto_idle_eq (s.csrAccess_phase.trans hp)]

/-- Settles O16, by the bits of `csr_value()`. -/
theorem csrReadReturnsCsrValue : Obligations.CsrReadReturnsCsrValue := by
  refine ⟨fun _ => decode_ok_iff, fun s hp => ⟨s.csrValue, exec_csrRd_idle hp, ?resetN, ?enable, ?closed, ?opened, ?free⟩,
    fun _ hp => exec_reentry trivial not_false hp⟩
  case resetN => exact s.csrValue_getLsbD 7 (by decide)
  case enable => exact s.csrValue_getLsbD 1 (by decide)
  case closed =>
    intro h
    rw [s.csrValue_getLsbD 2 (by decide), s.csrValue_getLsbD 3 (by decide)]
    exact ⟨State.csrBit_status h .wrBusy, State.csrBit_status h .dataAvail⟩
  case opened =>
    intro h
    rw [s.csrValue_getLsbD 2 (by decide), s.csrValue_getLsbD 3 (by decide)]
    exact ⟨if_neg h, if_neg h⟩
  case free =>
    rintro j (rfl | rfl | rfl | rfl) <;> exact s.csrValue_getLsbD _ (by decide)

/-! ### Frames (10_state.md R32, R33) -/

/-- A move that is not `L_RX` keeps both read ports. -/
theorem takeTurn_readPorts {m : Turn} {s t : State} (h : takeTurn m s = .next t) (hm : ∀ w, m ≠ .linkRx w) :
    t.rdh = s.rdh ∧ t.rdl = s.rdl := by
  cases m with
  | fsm => cases h; simp [fsmCycle_frame]
  | linkTx => cases h; simp
  | linkRx w => exact absurd rfl (hm w)
  | linkAvClr | wrongDirection => cases h; exact ⟨rfl, rfl⟩
  | present c w =>
    obtain rfl | rfl | ⟨i, -, he⟩ := presentCommand_cases h
    · exact ⟨rfl, rfl⟩
    · exact ⟨rfl, rfl⟩
    · obtain ⟨-, -, hrdh, hrdl, -⟩ := exec_frame he
      exact ⟨hrdh, hrdl⟩

/-- The two bytes of a word, high above low, are the word. -/
theorem bytes_append (w : Word) : w.extractLsb' 8 8 ++ w.extractLsb' 0 8 = w :=
  (BitVec.extractLsb'_append_extractLsb'_eq_extractLsb' rfl).trans BitVec.extractLsb'_eq_self

/-- Settles O40, by what `L_RX` loads and what every other move keeps. -/
theorem readPortsHoldLastReceivedWord : Obligations.ReadPortsHoldLastReceivedWord := by
  intro s t h
  have hmove := takeTurn_of_step h
  refine ⟨fun w hw => ?_, fun hne => ?_⟩
  · rw [hw] at hmove
    cases hmove
    exact bytes_append w
  · simpa using takeTurn_readPorts hmove hne

/-- Settles O42: of the three things a move can do to the transmit side, only `L_TX` touches the words sent. -/
theorem sentWordsAreNeverLost : Obligations.SentWordsAreNeverLost := by
  intro s t h
  obtain ⟨-, -, hl⟩ | ⟨hm, hb, -, hl⟩ | ⟨b, ⟨-, -, -, -, hl⟩, -⟩ := takeTurn_send (takeTurn_of_step h)
  · exact .inl (by simpa using hl)
  · exact .inr ⟨hm, by simpa using hb, by simpa using hl⟩
  · exact .inl (by simpa using hl)

/-- No cycle clears WR_BUSY, and none writes both data ports. -/
theorem CycleEffect.ports {s t : State} (h : CycleEffect s t) :
    (s.wrBusy = true → t.wrBusy = true) ∧ (t.wdh = s.wdh ∨ t.wdl = s.wdl) := by
  cases h <;> simp_all

/-- Settles O45, by the frame of a cycle and the ports its micro-step may write. -/
theorem fsmCycleFrame : Obligations.FsmCycleFrame := by
  intro s
  obtain ⟨hcfg, hav, hrdh, hrdl, ha, hd, hlog, href, hiss, hown, hag⟩ := fsmCycle_frame s
  obtain ⟨hr, he⟩ := (fsmCycle_effect s).control
  obtain ⟨hbusy, hports⟩ := (fsmCycle_effect s).ports
  exact ⟨hcfg, hr, he, hav, hrdh, hrdl, ha, hd, hlog, href, hiss, hown, hag, hbusy, hports⟩

/-! ### The start of a transaction (41_register_channel.md R122) -/

/-- What the start of a transaction leaves alone. -/
def State.StartKept (s t : State) : Prop :=
  t.resetN = s.resetN ∧ t.enable = s.enable ∧ t.wrBusy = s.wrBusy ∧ t.wdl = s.wdl ∧ t.txbuf = s.txbuf ∧
  t.refused = s.refused ∧ t.faults = s.faults ∧ t.lo = s.lo ∧ t.hi = s.hi

/-- A cycle whose micro-step is a poll leaves WDH alone as well. -/
theorem CycleEffect.startKept_of_poll {s t : State} {f : StatusBit} {want : Bool} (h : CycleEffect s t)
    (hmicro : s.micro = some (.poll f want)) : s.StartKept t ∧ t.wdh = s.wdh := by
  cases h with
  | wdh _ hm | trigger _ hm | triggerBusy hm | rd _ hm => cases hmicro.symm.trans hm
  | idle | stuck | pollSettles | pollPasses | pollEnds | pollRetries => simp [State.StartKept]

/-- The start of a register transaction writes WDH. -/
theorem CycleEffect.startKept_of_wdh {s t : State} {b : Byte} (h : CycleEffect s t)
    (hmicro : s.micro = some (.wr .wdh b)) : s.StartKept t := by
  cases h with
  | trigger _ hm | triggerBusy hm | rd _ hm => cases hmicro.symm.trans hm
  | idle | stuck | wdh | pollSettles | pollPasses | pollEnds | pollRetries => simp [State.StartKept]

/-- The first cycle of a transaction, by its first micro-step; the sample transactions leave WDH alone. -/
theorem runCycle_latch_startKept (op : Txn) (a : RegAddr) (d : Word) (s : State) :
    s.StartKept (runCycle op 1 (s.latch op a d)) ∧
      (op = .sampleRead ∨ op = .sampleWrite → (runCycle op 1 (s.latch op a d)).wdh = s.wdh) := by
  have heffect := runCycle_latch_effect op a d s
  cases op with
  | regRead => exact ⟨heffect.startKept_of_wdh rfl, by simp⟩
  | regWrite => exact ⟨heffect.startKept_of_wdh rfl, by simp⟩
  | sampleRead =>
    obtain ⟨hkept, hwdh⟩ := heffect.startKept_of_poll (latch_sampleRead_micro a d s)
    exact ⟨hkept, fun _ => hwdh⟩
  | sampleWrite =>
    obtain ⟨hkept, hwdh⟩ := heffect.startKept_of_poll (latch_sampleWrite_micro a d s)
    exact ⟨hkept, fun _ => hwdh⟩

/-- No operation reads into the FSM's scratch registers in its own cycle. -/
theorem exec_scratch {i : Instr} {s t : State} (h : exec i s = .next t) : t.lo = s.lo ∧ t.hi = s.hi := by
  cases exec_effect h with
  | regRead | regWrite | sampleRead | sampleWrite =>
    obtain ⟨⟨-, -, -, -, -, -, -, hlo, hhi⟩, -⟩ := runCycle_latch_startKept ..
    exact ⟨hlo, hhi⟩
  | reentry | transform | reserved | nop | csrRd | csrWr | wdhWr | wdlWr | wdlBusy | rdhRd | rdlRd => exact ⟨rfl, rfl⟩

/-- The operation starts a transaction. -/
def StartsTransaction (i : Instr) : Prop :=
  (∃ a, i = .regRead a) ∨ (∃ a d, i = .regWrite a d) ∨ i = .sampleRead ∨ ∃ d, i = .sampleWrite d

/-- The operation starts a transaction of the sample pipe. -/
def StartsSample (i : Instr) : Prop := i = .sampleRead ∨ ∃ d, i = .sampleWrite d

/-- A command that starts a transaction does so from IDLE, and is the Reentry fault elsewhere. -/
theorem exec_of_starts {i : Instr} {s t : State} (hi : StartsTransaction i) (h : exec i s = .next t) :
    (s.phase ≠ .idle ∧ t = s.raise .reentry) ∨
    (s.phase = .idle ∧ ∃ op a d, t = runCycle op 1 (s.latch op a d) ∧
      (StartsSample i → op = .sampleRead ∨ op = .sampleWrite)) := by
  have guarded {op : Txn} {a : RegAddr} {d : Word} (hw : whenIdle s (start op a d) = .next t)
      (hop : StartsSample i → op = .sampleRead ∨ op = .sampleWrite) :
      (s.phase ≠ .idle ∧ t = s.raise .reentry) ∨
      (s.phase = .idle ∧ ∃ op a d, t = runCycle op 1 (s.latch op a d) ∧
        (StartsSample i → op = .sampleRead ∨ op = .sampleWrite)) := by
    obtain ⟨hp, rfl⟩ | hbusy := whenIdle_next hw
    · exact .inr ⟨hp, op, a, d, rfl, hop⟩
    · exact .inl hbusy
  obtain ⟨a, rfl⟩ | ⟨a, d, rfl⟩ | rfl | ⟨d, rfl⟩ := hi
  · exact guarded h (by simp [StartsSample])
  · exact guarded h (by simp [StartsSample])
  · exact guarded h fun _ => .inl rfl
  · exact guarded h fun _ => .inr rfl

/-- Settles O44, by the frame of a command, and for a start by its first cycle or the Reentry fault. -/
theorem instructionFrames : Obligations.InstructionFrames := by
  refine ⟨fun i s t h => ?all, fun i s t hi h => ?starts⟩
  case all =>
    obtain ⟨hcfg, hav, hrdh, hrdl, hlog, hiss, hag⟩ := exec_frame h
    obtain ⟨hlo, hhi⟩ := exec_scratch h
    exact ⟨hcfg, hav, hrdh, hrdl, hlog, hiss, hag, hlo, hhi⟩
  case starts =>
    obtain ⟨hp, rfl⟩ | ⟨hp, op, a, d, rfl, hop⟩ := exec_of_starts hi h
    · exact ⟨rfl, rfl, rfl, rfl, rfl, rfl, rfl, fun h => absurd h hp, fun _ => rfl⟩
    · obtain ⟨⟨hr, he, hb, hl, hx, hm, hf, -, -⟩, hwdh⟩ := runCycle_latch_startKept op a d s
      exact ⟨hr, he, hb, hl, hx, hm, congrArg FaultSet.triggerWhileBusy hf, fun _ => hf, fun hs => hwdh (hop hs)⟩

/-! ### Reentry (60_exceptions.md R205, R206) -/

/-- A cycle of the FSM raises no Reentry. -/
theorem CycleEffect.reentry {s t : State} (h : CycleEffect s t) : t.faults.reentry = s.faults.reentry := by
  cases h <;> simp [State.raise, FaultSet.insert]

/-- From IDLE no command raises Reentry. -/
theorem exec_reentry_of_idle {i : Instr} {s t : State} (h : exec i s = .next t) (hp : s.phase = .idle) :
    t.faults.reentry = s.faults.reentry := by
  cases exec_effect h with
  | reentry hne => exact absurd hp hne
  | regRead | regWrite | sampleRead | sampleWrite => exact (runCycle_latch_effect ..).reentry
  | transform | reserved | nop | csrRd | csrWr | wdhWr | wdlWr | wdlBusy | rdhRd | rdlRd =>
    simp [State.raise, FaultSet.insert]

/-- A caller that waits presents nothing. -/
theorem presentCommand_of_waiting {s : State} {c : Nat} (w : CmdWord) (h : s.Waiting c) :
    presentCommand c w s = .next s := if_neg fun hm => hm.2 h

/-- The only caller of a block with one caller may present only in IDLE. -/
theorem State.idle_of_single_caller {s : State} {c : Nat} (hown : s.OwnerOk) (hone : s.cfg.nCallers = 1)
    (hm : s.MayPresent c) : s.phase = .idle := by
  by_contra hp
  obtain ⟨hc, hw⟩ := hm
  have howner := hown hp
  exact hw ⟨hp, by omega⟩

/-- Settles O46: the one caller owns the transaction in progress, so it waits. -/
theorem singleCallerNeverReenters : Obligations.SingleCallerNeverReenters := by
  refine ⟨fun s t hinv hone h => ?never, fun s c w rest hf ha hp hown => ?waits⟩
  case waits => exact (step_cons hf ha).trans (presentCommand_of_waiting w ⟨hp, hown⟩)
  case never =>
    obtain ⟨hstop, hmove⟩ := step_cases h
    have hclear : s.afterTurn.faults.reentry = false := by simp [FaultSet.stopsFor_eq_none.1 hstop, FaultSet.empty]
    rw [← hclear]
    obtain ⟨-, rfl⟩ | ⟨-, rfl⟩ | ⟨w, -, rfl⟩ | ⟨-, rfl⟩ | ⟨acc, -, rfl⟩ | ⟨c, w, -, -, rfl⟩ | ⟨c, w, e, -, -, -, rfl⟩ |
      ⟨c, w, i, -, hm, -, he⟩ := hmove
    · exact (fsmCycle_effect _).reentry
    · simp
    · rfl
    · rfl
    · rfl
    · rfl
    · rfl
    · have hown : s.afterTurn.OwnerOk := by simpa [State.OwnerOk] using hinv.ownerOk
      have hp := State.idle_of_single_caller hown (by simpa using hone) hm
      exact exec_reentry_of_idle (s := s.afterTurn.issue c) he hp

end Sys2Proof.Machine
end

section
/-! SUPPORT. The invariant: the micro-steps index by index, what each does to the clauses of the invariant that speak of
a transaction, and the obligation that every step keeps it. -/

namespace Sys2Proof.Machine

/-! ### Which micro-step stands where (41_register_channel.md R124, R126, 42_sample_pipe.md R140, R142) -/

theorem State.microOf_wdh {s : State} {op : Txn} {k : Nat} {b : Byte} (h : s.microOf op k = some (.wr .wdh b)) :
    (op = .regRead ∧ k = 1 ∧ b = cmdRead s.cfg s.a) ∨ (op = .regWrite ∧ k = 1 ∧ b = cmdWrite s.cfg s.a) ∨
    (op = .regRead ∧ k = 6 ∧ b = 0) ∨ (op = .regWrite ∧ k = 6 ∧ b = 0) ∨
    (op = .sampleWrite ∧ k = 2 ∧ b = highByte s.d) := by
  rw [State.microOf_eq] at h
  split at h <;> simp_all

theorem State.microOf_wdl {s : State} {op : Txn} {k : Nat} {b : Byte} (h : s.microOf op k = some (.wr .wdl b)) :
    (op = .regRead ∧ k = 3 ∧ b = 0) ∨ (op = .regWrite ∧ k = 3 ∧ b = lowByte s.d) ∨
    (op = .regRead ∧ k = 7 ∧ b = 0) ∨ (op = .regWrite ∧ k = 7 ∧ b = 0) ∨
    (op = .sampleWrite ∧ k = 3 ∧ b = sampleLow s.d) := by
  rw [State.microOf_eq] at h
  split at h <;> simp_all

theorem State.microOf_rd {s : State} {op : Txn} {k : Nat} {p : InPort} (h : s.microOf op k = some (.rd p)) :
    (op = .regRead ∧ k = 8 ∧ p = .rdl) ∨ (op = .regRead ∧ k = 9 ∧ p = .rdh) ∨
    (op = .sampleRead ∧ k = 2 ∧ p = .rdh) ∨ (op = .sampleRead ∧ k = 3 ∧ p = .rdl) := by
  rw [State.microOf_eq] at h
  split at h <;> simp_all

theorem State.microOf_poll {s : State} {op : Txn} {k : Nat} {f : StatusBit} {want : Bool}
    (h : s.microOf op k = some (.poll f want)) :
    (f = .wrBusy ∧ want = false ∧
      (op = .regRead ∧ (k = 2 ∨ k = 4) ∨ op = .regWrite ∧ (k = 2 ∨ k = 4 ∨ k = 5) ∨ op = .sampleWrite ∧ k = 1)) ∨
    (f = .dataAvail ∧ want = true ∧ (op = .regRead ∧ k = 5 ∨ op = .sampleRead ∧ k = 1)) := by
  rw [State.microOf_eq] at h
  split at h <;> simp_all

/-! ### The clauses of a transaction in progress -/

/-- `TriggerOk`, `LatchOk` and `SentOk` of micro-step `k` of `op`, apart from the phase they are read at. -/
def State.ClausesAt (op : Txn) (k : Nat) (s : State) : Prop :=
  match op with
  | .regWrite => (k = 3 ∨ 5 ≤ k → s.wrBusy = false) ∧
      ((k = 2 ∨ k = 3 → s.wdh = cmdWrite s.cfg s.a) ∧ (k = 7 → s.wdh = 0)) ∧
      (4 ≤ k → s.Sent (compose (cmdWrite s.cfg s.a) (lowByte s.d)))
  | .regRead => (k = 3 ∨ (5 ≤ k ∧ k ≤ 7) → s.wrBusy = false) ∧
      ((k = 2 ∨ k = 3 → s.wdh = cmdRead s.cfg s.a) ∧ (k = 7 → s.wdh = 0)) ∧
      (4 ≤ k ∧ k ≤ 7 → s.Sent (compose (cmdRead s.cfg s.a) 0))
  | .sampleWrite => (2 ≤ k → s.wrBusy = false) ∧ (k = 3 → s.wdh = highByte s.d) ∧ True
  | .sampleRead => True ∧ True ∧ True

theorem State.clausesAt_iff {s : State} {op : Txn} {k : Nat} (hp : s.phase = .run op k) :
    s.ClausesAt op k ↔ s.TriggerOk ∧ s.LatchOk ∧ s.SentOk := by
  cases op <;> simp only [State.ClausesAt, State.TriggerOk, State.LatchOk, State.SentOk, hp]

theorem State.Inv.clausesAt {s : State} {op : Txn} {k : Nat} (h : s.Inv) (hp : s.phase = .run op k) :
    s.ClausesAt op k := (State.clausesAt_iff hp).2 ⟨h.triggerOk, h.latchOk, h.sentOk⟩

/-- Nothing is asked of the first micro-step. -/
theorem State.clausesAt_one (op : Txn) (s : State) : s.ClausesAt op 1 := by
  cases op <;> simp [State.ClausesAt]

@[simp] theorem State.sent_openWindow (w : Word) (s : State) : s.openWindow.Sent w ↔ s.Sent w := Iff.rfl
@[simp] theorem State.sent_putWdh (w : Word) (b : Byte) (s : State) : (s.putWdh b).Sent w ↔ s.Sent w := Iff.rfl
@[simp] theorem State.sent_csrAccess (w : Word) (s : State) : s.csrAccess.Sent w ↔ s.Sent w := Iff.rfl
@[simp] theorem State.sent_setPcnt (w : Word) (n : Nat) (s : State) : (s.setPcnt n).Sent w ↔ s.Sent w := Iff.rfl
@[simp] theorem State.sent_trigger (w : Word) (b : Byte) (s : State) : (s.trigger b).Sent w ↔ s.wdh ++ b = w := Iff.rfl

/-- Writing WDH makes good the clauses of the next micro-step. -/
theorem State.ClausesAt.putWdh {s : State} {op : Txn} {k : Nat} {b : Byte} (h : s.ClausesAt op k)
    (hm : s.microOf op k = some (.wr .wdh b)) : (s.putWdh b).openWindow.ClausesAt op (k + 1) := by
  obtain ⟨rfl, rfl, rfl⟩ | ⟨rfl, rfl, rfl⟩ | ⟨rfl, rfl, rfl⟩ | ⟨rfl, rfl, rfl⟩ | ⟨rfl, rfl, rfl⟩ :=
    State.microOf_wdh hm <;>
    simp_all [State.ClausesAt]

/-- The first trigger of a register transaction puts the command's word in flight; after any other no clause is left. -/
theorem State.ClausesAt.trigger {s : State} {op : Txn} {k : Nat} {b : Byte} (h : s.ClausesAt op k)
    (hm : s.microOf op k = some (.wr .wdl b)) (hk : k < op.length) :
    (s.trigger b).openWindow.ClausesAt op (k + 1) := by
  obtain ⟨rfl, rfl, rfl⟩ | ⟨rfl, rfl, rfl⟩ | ⟨rfl, rfl, rfl⟩ | ⟨rfl, rfl, rfl⟩ | ⟨rfl, rfl, rfl⟩ :=
    State.microOf_wdl hm <;>
    simp_all [State.ClausesAt, compose, Txn.length]

/-- The reads come after the last clause. -/
theorem State.ClausesAt.capture {s : State} {op : Txn} {k : Nat} {p : InPort}
    (hm : s.microOf op k = some (.rd p)) : (s.capture p).openWindow.ClausesAt op (k + 1) := by
  obtain ⟨rfl, rfl, rfl⟩ | ⟨rfl, rfl, rfl⟩ | ⟨rfl, rfl, rfl⟩ | ⟨rfl, rfl, rfl⟩ := State.microOf_rd hm <;>
    simp [State.ClausesAt]

/-- A poll that saw WR_BUSY = 0 makes good the clause of the trigger that follows. -/
theorem State.ClausesAt.pollPasses {s : State} {op : Txn} {k n : Nat} {f : StatusBit} {want : Bool}
    (h : s.ClausesAt op k) (hm : s.microOf op k = some (.poll f want)) (hb : s.status f = want) :
    (s.csrAccess.setPcnt n).ClausesAt op (k + 1) := by
  obtain ⟨rfl, rfl, ⟨rfl, rfl | rfl⟩ | ⟨rfl, rfl | rfl | rfl⟩ | ⟨rfl, rfl⟩⟩ | ⟨rfl, rfl, ⟨rfl, rfl⟩ | ⟨rfl, rfl⟩⟩ :=
    State.microOf_poll hm <;>
    simp_all [State.ClausesAt, State.status]

/-! ### The invariant of a state in a transaction -/

/-- The poll counter of a transaction in progress is below the limit. -/
def State.BelowLimit (s : State) : Prop := ∀ n, s.cfg.pollLimit = some n → s.pcnt < n

theorem State.Inv.of_run {s : State} {op : Txn} {k : Nat} (hp : s.phase = .run op k) (hcfg : s.cfg.Valid)
    (hsc : s.sc ≤ s.cfg.nSettle) (hk : 1 ≤ k ∧ k ≤ op.length) (hlim : s.BelowLimit)
    (hpcnt : (∀ f want, s.microOf op k ≠ some (.poll f want)) → s.pcnt = 0) (hcl : s.ClausesAt op k)
    (hown : s.owner < s.cfg.nCallers) : s.Inv := by
  obtain ⟨htrigger, hlatch, hsent⟩ := (State.clausesAt_iff hp).1 hcl
  refine ⟨hcfg, hsc, ?_, ?_, htrigger, hlatch, hsent, fun _ => hown⟩
  · simpa only [State.IndexOk, hp] using hk
  · simpa only [State.CountOk, hp, State.micro_run hp] using ⟨hlim, hpcnt⟩

theorem State.Inv.index {s : State} {op : Txn} {k : Nat} (h : s.Inv) (hp : s.phase = .run op k) :
    1 ≤ k ∧ k ≤ op.length := by
  simpa only [State.IndexOk, hp] using h.indexOk

theorem State.Inv.count {s : State} {op : Txn} {k : Nat} (h : s.Inv) (hp : s.phase = .run op k) :
    s.BelowLimit ∧ ((∀ f want, s.microOf op k ≠ some (.poll f want)) → s.pcnt = 0) := by
  simpa only [State.BelowLimit, State.CountOk, hp, State.micro_run hp] using h.countOk

/-- In every phase the poll counter does not pass the limit. -/
theorem State.Inv.pcnt_le {s : State} (h : s.Inv) (n : Nat) (hn : s.cfg.pollLimit = some n) : s.pcnt ≤ n := by
  cases hp : s.phase with
  | idle => exact (by simpa only [State.CountOk, hp] using h.countOk : ∀ n, s.cfg.pollLimit = some n → s.pcnt ≤ n) n hn
  | run op k => exact ((h.count hp).1 n hn).le

/-- `t` has everything of `s` that the invariant speaks of, but a settle counter that may be lower. -/
structure State.Core (s t : State) : Prop where
  cfg : t.cfg = s.cfg
  phase : t.phase = s.phase
  sc : t.sc ≤ s.sc
  pcnt : t.pcnt = s.pcnt
  a : t.a = s.a
  d : t.d = s.d
  wdh : t.wdh = s.wdh
  owner : t.owner = s.owner
  wrBusy : t.wrBusy = true → s.wrBusy = true
  sent : ∀ w, s.Sent w → t.Sent w

theorem State.ClausesAt.of_core {s t : State} {op : Txn} {k : Nat} (hc : s.Core t) (h : s.ClausesAt op k) :
    t.ClausesAt op k := by
  have hbusy : s.wrBusy = false → t.wrBusy = false := fun h => by
    by_contra hb
    simp [hc.wrBusy (by simpa using hb)] at h
  have hsent := hc.sent
  cases op <;> simp only [State.ClausesAt, hc.cfg, hc.a, hc.d, hc.wdh] at h ⊢ <;> grind

theorem State.Inv.of_core {s t : State} (hc : s.Core t) (h : s.Inv) : t.Inv := by
  have hcfg : t.cfg.Valid := hc.cfg ▸ h.cfgOk
  have hsc : t.sc ≤ t.cfg.nSettle := hc.cfg ▸ hc.sc.trans h.settleOk
  cases hp : s.phase with
  | idle => exact .of_idle (hc.phase.trans hp) hcfg hsc fun n hn => hc.pcnt ▸ h.pcnt_le n (hc.cfg ▸ hn)
  | run op k =>
    obtain ⟨hlim, hpcnt⟩ := h.count hp
    refine .of_run (hc.phase.trans hp) hcfg hsc (h.index hp) (fun n hn => hc.pcnt ▸ hlim n (hc.cfg ▸ hn)) ?_
      ((h.clausesAt hp).of_core hc) ?_
    · rw [State.microOf_congr hc.cfg hc.a hc.d, hc.pcnt]
      exact hpcnt
    · rw [hc.owner, hc.cfg]
      exact h.ownerOk (by simp [hp])

theorem State.core_settle (s : State) : s.Core s.settle :=
  ⟨rfl, rfl, Nat.sub_le _ _, rfl, rfl, rfl, rfl, rfl, id, fun _ => id⟩
theorem State.core_raise (f : Fault) (s : State) : s.Core (s.raise f) :=
  ⟨rfl, rfl, le_rfl, rfl, rfl, rfl, rfl, rfl, id, fun _ => id⟩
theorem State.core_refuse (s : State) : s.Core s.refuse :=
  ⟨rfl, rfl, le_rfl, rfl, rfl, rfl, rfl, rfl, id, fun _ => id⟩
theorem State.core_deliver (c : Nat) (r : Result) (s : State) : s.Core (s.deliver c r) :=
  ⟨rfl, rfl, le_rfl, rfl, rfl, rfl, rfl, rfl, id, fun _ => id⟩
theorem State.core_issue (c : Nat) (s : State) : s.Core (s.issue c) :=
  ⟨rfl, rfl, le_rfl, rfl, rfl, rfl, rfl, rfl, id, fun _ => id⟩
theorem State.core_linkRx (w : Word) (s : State) : s.Core (linkRx w s) :=
  ⟨rfl, rfl, le_rfl, rfl, rfl, rfl, rfl, rfl, id, fun _ => id⟩
theorem State.core_linkAvClr (s : State) : s.Core (linkAvClr s) :=
  ⟨rfl, rfl, le_rfl, rfl, rfl, rfl, rfl, rfl, id, fun _ => id⟩
theorem State.core_withAgenda (s : State) (agenda : List Turn) (draws : Nat) :
    s.Core { s with agenda := agenda, draws := draws } :=
  ⟨rfl, rfl, le_rfl, rfl, rfl, rfl, rfl, rfl, id, fun _ => id⟩

/-- The word in flight becomes the last word sent. -/
theorem State.core_linkTx (s : State) : s.Core (linkTx s) := by
  refine ⟨by simp, by simp, by simp, by simp, by simp, by simp, by simp, by simp, by simp, fun w hw => ?_⟩
  cases hb : s.wrBusy <;> simp_all [State.Sent, linkTx_txlog]

theorem State.afterTurn_eq (s : State) :
    s.afterTurn = { s with agenda := s.afterTurn.agenda, draws := s.afterTurn.draws } := by
  unfold State.afterTurn; split <;> rfl

theorem State.core_afterTurn (s : State) : s.Core s.afterTurn := by
  rw [s.afterTurn_eq]; exact s.core_withAgenda _ _

/-! ### A cycle keeps the invariant -/

/-- A micro-step is one of a transaction in progress. -/
theorem State.run_of_micro {s : State} {m : Micro} (h : s.micro = some m) :
    ∃ op k, s.phase = .run op k ∧ s.microOf op k = some m := by
  cases hp : s.phase with
  | idle => simp [State.micro, hp] at h
  | run op k => exact ⟨op, k, rfl, (State.micro_run hp).symm.trans h⟩

/-- A micro-step that is done leads to the next one, whose clauses hold, or to IDLE. -/
theorem State.Inv.advance {s u : State} {op : Txn} {k : Nat} (h : s.Inv) (hp : s.phase = .run op k)
    (hcfg : u.cfg = s.cfg) (howner : u.owner = s.owner) (hsc : u.sc = s.cfg.nSettle) (hpcnt : u.pcnt = 0)
    (hcl : k < op.length → u.ClausesAt op (k + 1)) : (advance op k u).Inv := by
  have hvalid : u.cfg.Valid := hcfg ▸ h.cfgOk
  have hsettle : u.sc ≤ u.cfg.nSettle := (hsc.trans (congrArg Config.nSettle hcfg.symm)).le
  by_cases hk : k < op.length
  · rw [advance_lt hk]
    refine .of_run (op := op) (k := k + 1) rfl hvalid hsettle ⟨by omega, hk⟩ ?_ (fun _ => hpcnt) (hcl hk) ?_
    · intro n hn
      have hpos : n ≠ 0 := fun h0 => hvalid.2.1 (h0 ▸ hn)
      have hzero : (u.goto (.run op (k + 1))).pcnt = 0 := hpcnt
      omega
    · have hown := h.ownerOk (by simp [hp])
      simpa [howner, hcfg] using hown
  · rw [advance_last hk]
    exact .of_idle rfl hvalid hsettle fun n _ => hpcnt.le.trans (Nat.zero_le n)

/-- Outside a poll the poll counter is 0. -/
theorem State.Inv.pcnt_eq_zero {s : State} {m : Micro} (h : s.Inv) (hm : s.micro = some m)
    (hne : ∀ f want, m ≠ .poll f want) : s.pcnt = 0 := by
  obtain ⟨op, k, hp, hmk⟩ := State.run_of_micro hm
  exact (h.count hp).2 fun f want e => hne f want (Option.some.inj (hmk.symm.trans e))

/-- Every cycle of the FSM keeps the invariant. -/
theorem CycleEffect.inv {s t : State} (he : CycleEffect s t) (h : s.Inv) : t.Inv := by
  have hrun {op : Txn} {k : Nat} {m : Micro} (hp : s.phase = .run op k) (hm : s.micro = some m) :
      s.microOf op k = some m := (State.micro_run hp).symm.trans hm
  cases he with
  | idle | pollSettles => exact h.of_core s.core_settle
  | stuck => exact h
  | triggerBusy => exact h.of_core (s.core_raise _)
  | wdh hp hm =>
    exact h.advance hp rfl rfl rfl (h.pcnt_eq_zero hm (by simp)) fun _ => (h.clausesAt hp).putWdh (hrun hp hm)
  | trigger hp hm =>
    exact h.advance hp rfl rfl rfl (h.pcnt_eq_zero hm (by simp)) fun hk => (h.clausesAt hp).trigger (hrun hp hm) hk
  | rd hp hm =>
    have hpcnt := h.pcnt_eq_zero hm (by simp)
    exact h.advance hp (by simp) (by simp) (by simp) (by simpa using hpcnt) fun _ => .capture (hrun hp hm)
  | pollPasses hp hm hs hb =>
    have hstatus := (State.csrBit_eq_status hs _).symm.trans hb
    exact h.advance hp rfl rfl rfl rfl fun _ => (h.clausesAt hp).pollPasses (hrun hp hm) hstatus
  | pollEnds hm =>
    obtain ⟨op, k, hp, -⟩ := State.run_of_micro hm
    exact .of_idle rfl h.cfgOk le_rfl fun n hn => (h.count hp).1 n hn
  | pollRetries hm _ _ hl =>
    obtain ⟨op, k, hp, hmk⟩ := State.run_of_micro hm
    refine .of_run hp h.cfgOk le_rfl (h.index hp) (limitReached_eq_false.1 hl) (fun hne => absurd hmk (hne _ _)) ?_
      (h.ownerOk (by simp [hp]))
    have hcl := h.clausesAt hp
    cases op <;> exact hcl

/-! ### A step keeps the invariant -/

/-- The latched state of a start meets the invariant where the issuer is one of the callers. -/
theorem State.Inv.latch {s : State} (h : s.Inv) (hc : s.issuer < s.cfg.nCallers) (op : Txn) (a : RegAddr) (d : Word) :
    (s.latch op a d).Inv := by
  have hlength : 1 ≤ op.length := by cases op <;> decide
  refine .of_run rfl h.cfgOk h.settleOk ⟨le_rfl, hlength⟩ (fun n hn => ?_) (fun _ => rfl) (State.clausesAt_one op _) hc
  exact Nat.pos_of_ne_zero fun h0 => h.cfgOk.2.1 (h0 ▸ hn)

/-- A command keeps the invariant where the issuer is one of the callers. -/
theorem exec_inv {i : Instr} {s t : State} (he : exec i s = .next t) (h : s.Inv) (hc : s.issuer < s.cfg.nCallers) :
    t.Inv := by
  cases exec_effect he with
  | reentry | wdlBusy => exact h.of_core (s.core_raise _)
  | transform => exact h.of_core (s.core_deliver _ _)
  | reserved => exact h.of_core s.core_refuse
  | nop => exact h.of_core s.core_settle
  | csrRd hp | csrWr hp | wdhWr hp | wdlWr hp | rdhRd hp | rdlRd hp => exact .of_idle hp h.cfgOk le_rfl h.pcnt_le
  | regRead | regWrite | sampleRead | sampleWrite => exact (runCycle_latch_effect ..).inv (h.latch hc ..)

/-- A move keeps the invariant: a caller that may present is one of the callers. -/
theorem takeTurn_inv {m : Turn} {s t : State} (hmove : takeTurn m s = .next t) (h : s.Inv) : t.Inv := by
  cases m with
  | fsm => cases hmove; exact (fsmCycle_effect s).inv h
  | linkTx => cases hmove; exact h.of_core s.core_linkTx
  | linkRx w => cases hmove; exact h.of_core (s.core_linkRx w)
  | linkAvClr => cases hmove; exact h.of_core s.core_linkAvClr
  | wrongDirection => cases hmove; exact h.of_core s.core_refuse
  | present c w =>
    by_cases hm : s.MayPresent c
    · obtain rfl | rfl | ⟨i, -, he⟩ := presentCommand_cases hmove
      · exact h
      · exact h.of_core s.core_refuse
      · exact exec_inv he (h.of_core (s.core_issue c)) hm.1
    · have hpassed : takeTurn (.present c w) s = .next s := if_neg hm
      cases hpassed.symm.trans hmove
      exact h

/-- Settles O48: the invariant survives the move taken off the agenda, and then the move. -/
theorem stepKeepsInvariant : Obligations.StepKeepsInvariant := fun s _ h hstep =>
  takeTurn_inv (takeTurn_of_step hstep) (h.of_core s.core_afterTurn)

end Sys2Proof.Machine
end

section
/-! SUPPORT. What the invariant rules out (R104, R125), where a TIMEOUT comes from (R121, R203), what SAMPLE_WRITE
places in flight (R140), a poll that waits for ever (R204), and torn reads (R54). -/

namespace Sys2Proof.Machine

/-! ### No transaction triggers while busy (40_port_access.md R104) -/

/-- In a state of the invariant the FSM comes to a trigger with WR_BUSY = 0. -/
theorem State.Inv.wrBusy_of_trigger {s : State} {b : Byte} (h : s.Inv) (hm : s.micro = some (.wr .wdl b)) :
    s.wrBusy = false := by
  obtain ⟨op, k, hp, hmk⟩ := State.run_of_micro hm
  have hcl := h.clausesAt hp
  obtain ⟨rfl, rfl, -⟩ | ⟨rfl, rfl, -⟩ | ⟨rfl, rfl, -⟩ | ⟨rfl, rfl, -⟩ | ⟨rfl, rfl, -⟩ := State.microOf_wdl hmk <;>
    exact hcl.1 (by decide)

/-- In a state of the invariant a cycle raises no fault. -/
theorem CycleEffect.faults_of_inv {s t : State} (he : CycleEffect s t) (h : s.Inv) : t.faults = s.faults := by
  cases he with
  | triggerBusy hm hb => exact absurd hb (by simp [h.wrBusy_of_trigger hm])
  | idle | stuck | wdh | trigger | rd | pollSettles | pollPasses | pollEnds | pollRetries => simp

/-- Only a WDL_WR raises TriggerWhileBusy in the cycle that starts it. -/
theorem exec_triggerWhileBusy {i : Instr} {s t : State} (h : exec i s = .next t) (hi : ∀ b, i ≠ .wdlWr b) :
    t.faults.triggerWhileBusy = s.faults.triggerWhileBusy := by
  cases exec_effect h with
  | @wdlBusy b => exact absurd rfl (hi b)
  | regRead | regWrite | sampleRead | sampleWrite =>
    obtain ⟨⟨-, -, -, -, -, -, hf, -, -⟩, -⟩ := runCycle_latch_startKept ..
    exact congrArg FaultSet.triggerWhileBusy hf
  | reentry | transform | reserved | nop | csrRd | csrWr | wdhWr | wdlWr | rdhRd | rdlRd => rfl

/-- Settles O22: a cycle faults in no state of the invariant, and no command but WDL_WR triggers in its own cycle. -/
theorem transactionsNeverTriggerWhileBusy : Obligations.TransactionsNeverTriggerWhileBusy := by
  intro s t hinv hstep hne
  have h : s.afterTurn.Inv := hinv.of_core s.core_afterTurn
  obtain ⟨hstop, hmove⟩ := step_cases hstep
  have hclear : s.afterTurn.faults.triggerWhileBusy = false := by
    simp [FaultSet.stopsFor_eq_none.1 hstop, FaultSet.empty]
  rw [← hclear]
  obtain ⟨-, rfl⟩ | ⟨-, rfl⟩ | ⟨w, -, rfl⟩ | ⟨-, rfl⟩ | ⟨acc, -, rfl⟩ | ⟨c, w, -, -, rfl⟩ | ⟨c, w, e, -, -, -, rfl⟩ |
    ⟨c, w, i, ht, -, hd, he⟩ := hmove
  · exact congrArg FaultSet.triggerWhileBusy ((fsmCycle_effect _).faults_of_inv h)
  · simp
  · rfl
  · rfl
  · rfl
  · rfl
  · rfl
  · exact exec_triggerWhileBusy (s := s.afterTurn.issue c) he fun b hb => hne c w b ht (hb ▸ hd)

/-! ### TIMEOUT (41_register_channel.md R121, 60_exceptions.md R203) -/

/-- Ending a transaction delivers no TIMEOUT. -/
theorem advance_results (op : Txn) (k : Nat) (s : State) :
    (advance op k s).results = s.results ∨ ∃ v, (advance op k s).results = s.results ++ [(s.owner, .ok v)] := by
  by_cases hk : k < op.length
  · exact .inl (by rw [advance_lt hk]; rfl)
  · exact .inr ⟨op.value s, by rw [advance_last hk]; rfl⟩

/-- A cycle or a command that ends in TIMEOUT leads to IDLE, where a limit is set, with the transmit side as it was. -/
def State.TimedOut (s t : State) : Prop :=
  (∃ n, s.cfg.pollLimit = some n) ∧ t.phase = .idle ∧ t.wdh = s.wdh ∧ t.wdl = s.wdl ∧ t.txbuf = s.txbuf ∧
  t.wrBusy = s.wrBusy ∧ t.txlog = s.txlog

/-- Of the effects of a cycle, only the poll that reaches its limit delivers a TIMEOUT. -/
theorem CycleEffect.timedOut {s t : State} {c : Nat} (h : CycleEffect s t)
    (hr : t.results = s.results ++ [(c, .timeout)]) : s.TimedOut t := by
  have hdone {op : Txn} {k : Nat} {u : State} (hu : u.results = s.results)
      (ha : (advance op k u).results = s.results ++ [(c, .timeout)]) : s.TimedOut (advance op k u) := by
    obtain e | ⟨v, e⟩ := advance_results op k u <;> simp [e, hu] at ha
  cases h with
  | pollEnds _ _ _ hl =>
    obtain ⟨n, hn, -⟩ := limitReached_eq_true.1 hl
    simp [State.TimedOut, hn]
  | wdh | trigger | rd | pollPasses => exact hdone (by simp) hr
  | idle | stuck | triggerBusy | pollSettles | pollRetries => simp at hr

/-- A command that delivers a TIMEOUT is the start of a transaction, whose first poll reaches its limit. -/
theorem exec_timedOut {i : Instr} {s t : State} {c : Nat} (h : exec i s = .next t)
    (hr : t.results = s.results ++ [(c, .timeout)]) : s.TimedOut t := by
  cases exec_effect h with
  | regRead | regWrite | sampleRead | sampleWrite => exact (runCycle_latch_effect ..).timedOut hr
  | reentry | transform | reserved | nop | csrRd | csrWr | wdhWr | wdlWr | wdlBusy | rdhRd | rdlRd => simp at hr

/-- A move that delivers a TIMEOUT is a cycle or a command that does. -/
theorem takeTurn_timedOut {m : Turn} {s t : State} {c : Nat} (h : takeTurn m s = .next t)
    (hr : t.results = s.results ++ [(c, .timeout)]) : s.TimedOut t := by
  cases m with
  | fsm => cases h; exact (fsmCycle_effect s).timedOut hr
  | linkTx | linkRx | linkAvClr | wrongDirection => cases h; simp at hr
  | present c' w =>
    obtain rfl | rfl | ⟨i, -, he⟩ := presentCommand_cases h
    · simp at hr
    · simp at hr
    · exact exec_timedOut (s := s.issue c') he hr

/-- Settles O25, by the move that delivers the TIMEOUT. -/
theorem timeoutOnlyWhenBounded : Obligations.TimeoutOnlyWhenBounded := by
  intro s t c h hr
  simpa [State.TimedOut] using takeTurn_timedOut (takeTurn_of_step h) (by simpa using hr)

/-! ### The word of SAMPLE_WRITE (30_encoding.md R75, 42_sample_pipe.md R140) -/

theorem sampleLow_getLsbD_zero (d : Word) : (sampleLow d).getLsbD 0 = false := by
  simp [sampleLow]

/-- Outside IDLE no command changes the transmit side. -/
theorem exec_sendKept_of_busy {i : Instr} {s t : State} (h : exec i s = .next t) (hp : s.phase ≠ .idle) :
    s.SendKept t := by
  cases exec_effect h with
  | reentry | transform | reserved => exact ⟨rfl, rfl, rfl⟩
  | nop hi | csrRd hi | csrWr hi | wdhWr hi | wdlWr hi | wdlBusy hi | rdhRd hi | rdlRd hi | regRead hi | regWrite hi
  | sampleRead hi | sampleWrite hi => exact absurd hi hp

/-- During a transaction only its own trigger changes the word in flight. -/
theorem takeTurn_txbuf_of_busy {m : Turn} {s t : State} (h : takeTurn m s = .next t) (hp : s.phase ≠ .idle) :
    t.txbuf = s.txbuf ∨ ∃ b, s.micro = some (.wr .wdl b) ∧ t.txbuf = s.wdh ++ b := by
  cases m with
  | fsm =>
    cases h
    obtain ⟨-, hx, -⟩ | ⟨b, hm, -, -, -, hx, -⟩ := (fsmCycle_effect s).send
    · exact .inl hx
    · exact .inr ⟨b, hm, hx⟩
  | linkTx => cases h; exact .inl (by simp)
  | linkRx | linkAvClr | wrongDirection => cases h; exact .inl rfl
  | present c w =>
    obtain rfl | rfl | ⟨i, -, he⟩ := presentCommand_cases h
    · exact .inl rfl
    · exact .inl rfl
    · obtain ⟨-, hx, -⟩ := exec_sendKept_of_busy (s := s.issue c) he hp
      exact .inl hx

/-- Settles O37: the only trigger of SAMPLE_WRITE sends a byte whose bit 0 is cleared. -/
theorem sampleWordLowBitIsZero : Obligations.SampleWordLowBitIsZero := by
  intro s t k h hp hne
  have hmove := takeTurn_txbuf_of_busy (takeTurn_of_step h) (by simp [hp])
  rw [State.afterTurn_txbuf, State.afterTurn_micro, State.micro_run hp] at hmove
  obtain e | ⟨b, hm, hx⟩ := hmove
  · exact absurd e hne
  · obtain ⟨hop, -⟩ | ⟨hop, -⟩ | ⟨hop, -⟩ | ⟨hop, -⟩ | ⟨-, -, rfl⟩ := State.microOf_wdl hm
    · cases hop
    · cases hop
    · cases hop
    · cases hop
    · rw [hx, BitVec.getLsbD_append]
      exact sampleLow_getLsbD_zero s.d

/-! ### The end of REG_WRITE (41_register_channel.md R125) -/

/-- During a transaction every move but the FSM's keeps the phase. -/
theorem takeTurn_phase_of_busy {m : Turn} {s t : State} (h : takeTurn m s = .next t) (hp : s.phase ≠ .idle) :
    m = .fsm ∧ t = fsmCycle s ∨ t.phase = s.phase := by
  cases m with
  | fsm => cases h; exact .inl ⟨rfl, rfl⟩
  | linkTx => cases h; exact .inr (by simp)
  | linkRx | linkAvClr | wrongDirection => cases h; exact .inr rfl
  | present c w =>
    obtain rfl | rfl | ⟨i, -, he⟩ := presentCommand_cases h
    · exact .inr rfl
    · exact .inr rfl
    · exact .inr (exec_phase_of_busy (s := s.issue c) he hp)

/-- A micro-step that is done and leads to IDLE is the last one. -/
theorem length_le_of_advance_idle {op : Txn} {k : Nat} {s : State} (h : (advance op k s).phase = .idle) :
    op.length ≤ k := by
  by_contra hk
  rw [advance_lt (Nat.lt_of_not_le hk)] at h
  simp at h

/-- A cycle that ends REG_WRITE other than in TIMEOUT is the clearing trigger. -/
theorem CycleEffect.regWrite_ends {s t : State} {k : Nat} (h : CycleEffect s t) (hp : s.phase = .run .regWrite k)
    (ht : t.phase = .idle) (hr : t.results = s.results ++ [(s.owner, .ok .none)]) :
    k = 7 ∧ t.wrBusy = true ∧ t.txbuf = s.wdh ++ (0 : Byte) ∧ t.txlog = s.txlog := by
  have hop {op : Txn} {j : Nat} (hp' : s.phase = .run op j) : op = .regWrite ∧ j = k := by
    simpa using hp'.symm.trans hp
  cases h with
  | idle hi => cases hi.symm.trans hp
  | stuck | triggerBusy | pollSettles | pollRetries => cases ht.symm.trans hp
  | pollEnds => simp at hr
  | wdh hp' hm =>
    obtain ⟨rfl, rfl⟩ := hop hp'
    have hat := State.microOf_wdh ((State.micro_run hp).symm.trans hm)
    have hlast : 7 ≤ _ := length_le_of_advance_idle ht
    simp only [reduceCtorEq, false_and, true_and, false_or, or_false] at hat
    obtain ⟨rfl, -⟩ | ⟨rfl, -⟩ := hat <;> omega
  | rd hp' hm =>
    obtain ⟨rfl, rfl⟩ := hop hp'
    have hat := State.microOf_rd ((State.micro_run hp).symm.trans hm)
    simp at hat
  | pollPasses hp' hm =>
    obtain ⟨rfl, rfl⟩ := hop hp'
    have hlt := State.lt_length_of_microOf_poll ((State.micro_run hp).symm.trans hm)
    exact absurd hlt (length_le_of_advance_idle ht).not_gt
  | trigger hp' hm =>
    obtain ⟨rfl, rfl⟩ := hop hp'
    have hat := State.microOf_wdl ((State.micro_run hp).symm.trans hm)
    have hlast : 7 ≤ _ := length_le_of_advance_idle ht
    simp only [reduceCtorEq, false_and, true_and, false_or, or_false] at hat
    obtain ⟨rfl, rfl⟩ : _ = 7 ∧ _ = (0 : Byte) := hat.resolve_left (by omega)
    simp

/-- Settles O36: the transaction ends at the clearing trigger, where the invariant gives WDH = 0, WR_BUSY = 0 and the
command's word as the last one sent. -/
theorem regWriteWordHasBeenSent : Obligations.RegWriteWordHasBeenSent := by
  intro s t k hinv hstep hp ht hr
  have h : s.afterTurn.Inv := hinv.of_core s.core_afterTurn
  have hp' : s.afterTurn.phase = .run .regWrite k := by simpa using hp
  obtain ⟨-, rfl⟩ | hstay := takeTurn_phase_of_busy (takeTurn_of_step hstep) (by simp [hp])
  · obtain ⟨rfl, hbusy, hbuf, hlog⟩ := (fsmCycle_effect s.afterTurn).regWrite_ends hp' ht (by simpa using hr)
    obtain ⟨hfree, ⟨-, hwdh⟩, hsent⟩ : s.ClausesAt .regWrite 7 := hinv.clausesAt hp
    have hlast : s.Sent (compose (cmdWrite s.cfg s.a) (lowByte s.d)) := hsent (by decide)
    rw [State.Sent, if_neg (by simp [hfree (by decide)])] at hlast
    refine ⟨?_, ?_, hbusy⟩
    · rw [hlog, State.afterTurn_txlog, hlast]
      rfl
    · rw [hbuf, State.afterTurn_wdh, hwdh rfl]
      rfl
  · rw [ht, hp'] at hstay
    cases hstay

/-! ### A poll that waits for ever (60_exceptions.md R204) -/

/-- The machine has no fault and no poll limit, and is in a poll whose status bit does not have the wanted value. -/
def State.Hangs (f : StatusBit) (want : Bool) (s : State) : Prop :=
  s.NoFault ∧ s.cfg.pollLimit = none ∧ s.micro = some (.poll f want) ∧ s.status f ≠ want

/-- A cycle of a poll that hangs settles or counts a failed read, and hangs still. -/
theorem State.Hangs.cycle {s : State} {f : StatusBit} {want : Bool} (h : s.Hangs f want) :
    (fsmCycle s).Hangs f want ∧ (fsmCycle s).phase = s.phase ∧ (fsmCycle s).results = s.results := by
  have hkept := h
  obtain ⟨-, hlimit, hm, hb⟩ := h
  obtain ⟨op, k, hp, -⟩ := State.run_of_micro hm
  obtain ⟨hsettling, -, hfailed, -⟩ := pollAttempt s op k f want hp hm
  by_cases hs : s.sc = 0
  · rw [hfailed hs hb (by simp [hlimit])]
    exact ⟨by cases f <;> exact hkept, rfl, rfl⟩
  · rw [hsettling (Nat.pos_of_ne_zero hs)]
    exact ⟨by cases f <;> exact hkept, rfl, rfl⟩

/-- A run whose next move is chosen. -/
theorem runFor_cons {s t : State} {m : Turn} {rest : List Turn} (hf : s.NoFault) (ha : s.agenda = m :: rest)
    (h : takeTurn m { s with agenda := rest } = .next t) (n : Nat) : runFor (n + 1) s = runFor n t :=
  runFor_succ ((step_cons hf ha).trans h)

/-- Settles O26, by induction on the number of cycles. -/
theorem unboundedPollHangs : Obligations.UnboundedPollHangs := by
  intro s f want n rest hf hlimit hm hb ha
  have h : s.Hangs f want := ⟨hf, hlimit, hm, hb⟩
  clear hf hlimit hm hb
  induction n generalizing s with
  | zero => exact ⟨s, rfl, rfl, h.2.2.2, rfl, ha⟩
  | succ n ih =>
    have hnext : State.Hangs f want { s with agenda := fsmTurns n ++ rest } := by cases f <;> exact h
    obtain ⟨hhangs, hphase, hresults⟩ := hnext.cycle
    obtain ⟨-, -, -, -, -, -, -, -, -, -, hagenda⟩ := fsmCycle_frame { s with agenda := fsmTurns n ++ rest }
    obtain ⟨t, hrun, htphase, htb, htresults, htagenda⟩ := ih _ hagenda hhangs
    refine ⟨t, ?_, htphase.trans hphase, htb, htresults.trans hresults, htagenda⟩
    rw [runFor_cons h.1 ha rfl]
    exact hrun

/-! ### Torn reads (20_memory.md R54) -/

/-- A run whose next move is the FSM's. -/
theorem runFor_fsm {s t : State} {rest : List Turn} (hf : s.NoFault) (ha : s.agenda = .fsm :: rest)
    (h : fsmCycle { s with agenda := rest } = t) (n : Nat) : runFor (n + 1) s = runFor n t :=
  runFor_cons hf ha (congrArg Host.Outcome.next h) n

/-- Where `L_RX` falls between the two byte reads, the second one reads a byte of the new word. -/
theorem runFor_torn {s t u : State} {x : Word} {rest : List Turn} (hf : s.NoFault)
    (ha : s.agenda = .fsm :: .linkRx x :: .fsm :: rest)
    (ht : fsmCycle { s with agenda := .linkRx x :: .fsm :: rest } = t) (hft : t.NoFault)
    (hat : t.agenda = .linkRx x :: .fsm :: rest)
    (hu : fsmCycle (linkRx x { t with agenda := rest }) = u) : runFor 3 s = .next u := by
  rw [runFor_fsm hf ha ht, runFor_cons (t := linkRx x { t with agenda := .fsm :: rest }) hft hat rfl,
    runFor_fsm (s := linkRx x { t with agenda := .fsm :: rest }) hft rfl hu]
  rfl

/-- Settles O35: each byte is the one its port holds at its read. -/
theorem tornReads : Obligations.TornReads := by
  refine ⟨fun s x rest hf hp ha => ?_, fun s x rest hf hp ha => ?_⟩
  · obtain ⟨-, -, -, -, -, -, -, -, readLow, readHigh⟩ := regReadMicroProgram
    have hrun := runFor_torn hf ha (readLow _ hp) hf rfl (readHigh _ rfl)
    rw [← compose_eq_or] at hrun
    exact ⟨_, hrun, rfl, rfl⟩
  · obtain ⟨-, -, -, -, -, -, -, readHigh, readLow⟩ := sampleReadMicroProgram
    have hrun := runFor_torn hf ha (readHigh _ hp) hf rfl (readLow _ rfl)
    rw [← compose_eq_or] at hrun
    exact ⟨_, hrun, rfl, rfl⟩

end Sys2Proof.Machine
end

section
/-! SUPPORT. Whole runs of the four transactions, cycle by cycle (70_reset_and_hazards.md section 5): a satisfied poll
takes one cycle more than its settle window, every other micro-step takes one. -/

namespace Sys2Proof.Machine

/-- Runs compose. -/
theorem runFor_trans {m n : Nat} {s t u : State} (h : runFor m s = .next t) (h' : runFor n t = .next u) :
    runFor (m + n) s = .next u := (runFor_add h).trans h'

/-- One chosen move. -/
theorem runFor_one {s t : State} {m : Turn} {rest : List Turn} (hf : s.NoFault) (ha : s.agenda = m :: rest)
    (h : takeTurn m { s with agenda := rest } = .next t) : runFor 1 s = .next t := runFor_cons hf ha h 0

/-- One chosen cycle of the FSM. -/
theorem runFor_cycle {s t : State} {rest : List Turn} (hf : s.NoFault) (ha : s.agenda = .fsm :: rest)
    (h : fsmCycle { s with agenda := rest } = t) : runFor 1 s = .next t := runFor_fsm hf ha h 0

/-- Caller 0's command from IDLE. -/
theorem runFor_command {s t : State} {w : CmdWord} {i : Instr} {rest : List Turn} (hf : s.NoFault)
    (hp : s.phase = .idle) (hc : 1 ≤ s.cfg.nCallers) (ha : s.agenda = .present 0 w :: rest) (hd : decode w = .ok i)
    (h : exec i { s with agenda := rest, issuer := 0 } = .next t) : runFor 1 s = .next t :=
  runFor_succ ((step_present hf ha (State.mayPresent_of_idle hp hc) hd).trans h)

/-- A poll whose status bit has the wanted value waits out the settle window and then passes. -/
theorem runFor_poll {s : State} {op : Txn} {k : Nat} {f : StatusBit} {want : Bool} {rest : List Turn}
    (hf : s.NoFault) (hp : s.phase = .run op k) (hm : s.micro = some (.poll f want)) (hb : s.status f = want)
    (ha : s.agenda = fsmTurns (s.sc + 1) ++ rest) :
    runFor (s.sc + 1) s = .next { s with agenda := rest, sc := s.cfg.nSettle, draws := s.draws + 1, pcnt := 0,
                                         phase := .run op (k + 1) } := by
  generalize hn : s.sc = n at ha ⊢
  induction n generalizing s with
  | zero =>
    obtain ⟨-, hpasses, -⟩ := pollAttempt { s with agenda := rest } op k f want hp hm
    exact runFor_cycle hf ha (hpasses hn (by cases f <;> exact hb))
  | succ n ih =>
    obtain ⟨hsettles, -⟩ := pollAttempt { s with agenda := fsmTurns (n + 1) ++ rest } op k f want hp hm
    rw [runFor_fsm hf ha (hsettles (by simp [hn]))]
    exact ih hf hp hm (by cases f <;> exact hb) (by simp [hn]) rfl

/-- Settles O31, micro-step by micro-step: WR_BUSY is 0 at each poll, the second time because the link sent the word. -/
theorem regWriteRunsInMinimumCycles : Obligations.RegWriteRunsInMinimumCycles := by
  intro s w a d rest hf hp hb hc hd ha
  obtain ⟨-, -, start, polls, trigger, clearHigh, clearTrigger⟩ := regWriteMicroProgram
  have hcount : 3 * s.cfg.nSettle + 8 =
      1 + ((s.cfg.nSettle + 1) + (1 + (1 + ((s.cfg.nSettle + 1) + ((s.cfg.nSettle + 1) + (1 + 1)))))) := by omega
  rw [hcount]
  refine runFor_trans (runFor_command hf hp hc ha hd (start _ a d hp)) ?_
  refine runFor_trans (runFor_poll hf rfl (polls _ 2 (by decide) rfl) hb rfl) ?_
  refine runFor_trans (runFor_cycle hf rfl (trigger _ rfl hb)) ?_
  refine runFor_trans (runFor_one hf rfl (congrArg Host.Outcome.next (linkTx_of_busy rfl))) ?_
  refine runFor_trans (runFor_poll hf rfl (polls _ 4 (by decide) rfl) rfl rfl) ?_
  refine runFor_trans (runFor_poll hf rfl (polls _ 5 (by decide) rfl) rfl rfl) ?_
  refine runFor_trans (runFor_cycle hf rfl (clearHigh _ rfl)) ?_
  refine Eq.trans (runFor_cycle hf rfl (clearTrigger _ rfl rfl)) ?_
  simp [hp]

/-- The bytes of a word, by shift and truncation, are the word. -/
theorem bytes_or (x : Word) :
    ((x >>> 8).setWidth 8 : Byte).setWidth 16 <<< 8 ||| (x.setWidth 8 : Byte).setWidth 16 = x := by
  rw [← compose_eq_or]
  exact bytes_append x

/-- Settles O32, micro-step by micro-step as REG_WRITE; the word the link delivers is read back byte by byte. -/
theorem regReadRunsInMinimumCycles : Obligations.RegReadRunsInMinimumCycles := by
  intro s w a x rest hf hp hb hc hd ha
  obtain ⟨-, -, start, polls, pollData, trigger, clearHigh, clearTrigger, readLow, readHigh⟩ := regReadMicroProgram
  have hcount : 3 * s.cfg.nSettle + 11 =
      1 + ((s.cfg.nSettle + 1) + (1 + (1 + (1 + ((s.cfg.nSettle + 1) + ((s.cfg.nSettle + 1) +
        (1 + (1 + (1 + 1))))))))) := by omega
  rw [hcount]
  refine runFor_trans (runFor_command hf hp hc ha hd (start _ a hp)) ?_
  refine runFor_trans (runFor_poll hf rfl (polls _ 2 (by decide) rfl) hb rfl) ?_
  refine runFor_trans (runFor_cycle hf rfl (trigger _ rfl hb)) ?_
  refine runFor_trans (runFor_one hf rfl (congrArg Host.Outcome.next (linkTx_of_busy rfl))) ?_
  refine runFor_trans (runFor_one hf rfl (congrArg Host.Outcome.next (linkRx_eq x _))) ?_
  refine runFor_trans (runFor_poll hf rfl (polls _ 4 (by decide) rfl) rfl rfl) ?_
  refine runFor_trans (runFor_poll hf rfl (pollData _ rfl) rfl rfl) ?_
  refine runFor_trans (runFor_cycle hf rfl (clearHigh _ rfl)) ?_
  refine runFor_trans (runFor_cycle hf rfl (clearTrigger _ rfl rfl)) ?_
  refine runFor_trans (runFor_cycle hf rfl (readLow _ rfl)) ?_
  refine Eq.trans (runFor_cycle hf rfl (readHigh _ rfl)) ?_
  simp [hp, bytes_or]

/-- From the command of a transaction that starts with a poll to the poll's end: `sc + 1` moves, where the status bit
has the wanted value. -/
theorem runFor_start_poll {s : State} {w : CmdWord} {i : Instr} {op : Txn} {a : RegAddr} {d : Word} {f : StatusBit}
    {want : Bool} {rest : List Turn} (hf : s.NoFault) (hp : s.phase = .idle) (hc : 1 ≤ s.cfg.nCallers)
    (ha : s.agenda = .present 0 w :: (fsmTurns s.sc ++ rest)) (hd : decode w = .ok i)
    (hexec : ∀ u : State, u.phase = .idle → exec i u = .next (start op a d u))
    (hm : ∀ u : State, (u.latch op a d).micro = some (.poll f want)) (hb : s.status f = want) :
    runFor (s.sc + 1) s = .next { s with agenda := rest, issuer := 0, owner := 0, a := a, d := d, pcnt := 0,
                                         sc := s.cfg.nSettle, draws := s.draws + 1, phase := .run op 2 } := by
  have hcommand {agenda : List Turn} {t : State} (ha : s.agenda = .present 0 w :: agenda)
      (h : start op a d { s with agenda := agenda, issuer := 0 } = t) : runFor 1 s = .next t :=
    runFor_command hf hp hc ha hd ((hexec { s with agenda := agenda, issuer := 0 } hp).trans
      (congrArg Host.Outcome.next h))
  cases hs : s.sc with
  | zero =>
    rw [hs] at ha
    exact hcommand (agenda := rest) ha (start_of_poll_satisfied (hm _) hs (by cases f <;> exact hb))
  | succ n =>
    rw [hs] at ha
    have hsettling := hcommand ha (start_of_poll_settling (hm _) (by simp [hs]))
    simp only [hs, Nat.add_sub_cancel] at hsettling
    rw [Nat.add_comm (n + 1) 1]
    exact runFor_trans hsettling (runFor_poll hf rfl (hm s) (by cases f <;> exact hb) rfl)

/-- The word of SAMPLE_WRITE is the sample with its bit 0 cleared. -/
theorem sampleWord_eq (d : Word) :
    ((d >>> 8).setWidth 8 : Byte) ++ ((d.setWidth 8 : Byte) &&& 0xFE) = d &&& 0xFFFE := by
  have hmask : (0xFFFE : Word) = BitVec.allOnes 8 ++ (0xFE : Byte) := rfl
  conv_rhs => rw [← bytes_append d, hmask, BitVec.and_append, BitVec.and_allOnes]
  rfl

/-- Settles O33, by the start with its poll of WR_BUSY, then the write and the trigger. -/
theorem sampleWriteRunsInMinimumCycles : Obligations.SampleWriteRunsInMinimumCycles := by
  intro s w d rest hf hp hb hc hd ha
  obtain ⟨-, -, -, -, -, -, -, writeHigh, trigger⟩ := sampleWriteMicroProgram
  have hstart := runFor_start_poll hf hp hc ha hd (fun _ => exec_sampleWrite_idle d) (latch_sampleWrite_micro 0 d) hb
  refine runFor_trans (n := 1 + 1) hstart ?_
  refine runFor_trans (runFor_cycle hf rfl (writeHigh _ rfl)) ?_
  refine Eq.trans (runFor_cycle hf rfl (trigger _ rfl hb)) ?_
  simpa [hp] using sampleWord_eq d

/-- Settles O34, by the start with its poll of DATA_AVAIL, then the two reads. -/
theorem sampleReadRunsInMinimumCycles : Obligations.SampleReadRunsInMinimumCycles := by
  intro s w rest hf hp hb hc hd ha
  obtain ⟨-, -, -, -, -, -, -, readHigh, readLow⟩ := sampleReadMicroProgram
  have hstart := runFor_start_poll hf hp hc ha hd (fun _ => exec_sampleRead_idle) (latch_sampleRead_micro 0 0) hb
  refine runFor_trans (n := 1 + 1) hstart ?_
  refine runFor_trans (runFor_cycle hf rfl (readHigh _ rfl)) ?_
  refine Eq.trans (runFor_cycle hf rfl (readLow _ rfl)) ?_
  simp [hp, ← compose_eq_or, compose]

end Sys2Proof.Machine
end

section
/-! SUPPORT. A responsive link lets every transaction end (60_exceptions.md R216): a transaction that stayed at one
micro-step for ever would be in a poll, whose status bit comes to have the wanted value and keeps it, while the settle
window runs out. -/

namespace Sys2Proof.Machine

/-! ### What a move does during a transaction -/

/-- A cycle stays at its micro-step, goes on to the next one, or ends in IDLE. -/
theorem CycleEffect.phase {s t : State} {op : Txn} {k : Nat} (h : CycleEffect s t) (hp : s.phase = .run op k) :
    t.phase = .run op k ∨ t.phase = .run op (k + 1) ∨ t.phase = .idle := by
  have hdone {op' : Txn} {k' : Nat} (u : State) (hp' : s.phase = .run op' k') :
      (advance op' k' u).phase = .run op (k + 1) ∨ (advance op' k' u).phase = .idle := by
    obtain ⟨rfl, rfl⟩ : op' = op ∧ k' = k := by simpa using hp'.symm.trans hp
    by_cases hk : k' < op'.length
    · exact .inl (by rw [advance_lt hk]; rfl)
    · exact .inr (by rw [advance_last hk]; rfl)
  cases h with
  | idle | stuck | triggerBusy | pollSettles | pollRetries => exact .inl hp
  | pollEnds => exact .inr (.inr rfl)
  | wdh hp' | trigger hp' | rd hp' | pollPasses hp' => exact .inr (hdone _ hp')

/-- A cycle of a micro-step that is no poll leaves it, where the invariant holds. -/
theorem CycleEffect.phase_ne_of_not_poll {s t : State} {op : Txn} {k : Nat} (h : CycleEffect s t) (hinv : s.Inv)
    (hp : s.phase = .run op k) (hne : ∀ f want, s.micro ≠ some (.poll f want)) : t.phase ≠ .run op k := by
  have hdone {op' : Txn} {k' : Nat} (u : State) (hp' : s.phase = .run op' k') :
      (advance op' k' u).phase ≠ .run op k := by
    obtain ⟨rfl, rfl⟩ : op' = op ∧ k' = k := by simpa using hp'.symm.trans hp
    by_cases hk : k' < op'.length
    · rw [advance_lt hk]; simp
    · rw [advance_last hk]; simp
  cases h with
  | idle hi => cases hi.symm.trans hp
  | stuck hm =>
    obtain ⟨h1, h2⟩ := hinv.index hp
    obtain ⟨m, hsome⟩ := State.microOf_isSome (s := s) h1 h2
    cases hm.symm.trans ((State.micro_run hp).trans hsome)
  | triggerBusy hm hb => exact absurd hb (by simp [hinv.wrBusy_of_trigger hm])
  | pollSettles hm | pollRetries hm | pollEnds hm | pollPasses _ hm => exact absurd hm (hne _ _)
  | wdh hp' | trigger hp' | rd hp' => exact hdone _ hp'

/-- During a transaction no move but the FSM's changes the settle counter. -/
theorem takeTurn_sc_of_busy {m : Turn} {s t : State} (h : takeTurn m s = .next t) (hp : s.phase ≠ .idle)
    (hm : m ≠ .fsm) : t.sc = s.sc := by
  cases m with
  | fsm => exact absurd rfl hm
  | linkTx => cases h; simp
  | linkRx | linkAvClr | wrongDirection => cases h; rfl
  | present c w =>
    obtain rfl | rfl | ⟨i, -, he⟩ := presentCommand_cases h
    · rfl
    · rfl
    · cases exec_effect he with
      | reentry | transform | reserved => rfl
      | nop hi | csrRd hi | csrWr hi | wdhWr hi | wdlWr hi | wdlBusy hi | rdhRd hi | rdlRd hi | regRead hi
      | regWrite hi | sampleRead hi | sampleWrite hi => exact absurd hi hp

/-- During a poll no move sets WR_BUSY. -/
theorem takeTurn_wrBusy_of_poll {m : Turn} {s t : State} {f : StatusBit} {want : Bool} (h : takeTurn m s = .next t)
    (hmicro : s.micro = some (.poll f want)) (hb : s.wrBusy = false) : t.wrBusy = false := by
  obtain ⟨op, k, hp, -⟩ := State.run_of_micro hmicro
  obtain ⟨hkept, -⟩ | ⟨-, hbusy, -⟩ | ⟨b, -, ⟨-, hm⟩ | ⟨c, w, rfl, hd⟩⟩ := takeTurn_send h
  · exact hkept.trans hb
  · exact absurd hbusy (by simp [hb])
  · cases hm.symm.trans hmicro
  · obtain rfl | rfl | ⟨i, -, he⟩ := presentCommand_cases h
    · exact hb
    · exact hb
    · obtain ⟨hkept, -⟩ := exec_sendKept_of_busy (s := s.issue c) he (by simp [hp])
      exact hkept.trans hb

/-- A poll does not depend on the operands or the parameters. -/
theorem State.microOf_poll_any {s : State} {op : Txn} {k : Nat} {f : StatusBit} {want : Bool}
    (h : s.microOf op k = some (.poll f want)) (t : State) : t.microOf op k = some (.poll f want) := by
  rw [State.microOf_eq] at h ⊢
  split at h <;> simp_all

/-! ### A run that stays at one micro-step -/

section
variable {turns : Nat → Turn} {r : Nat → State} {n : Nat} {op : Txn} {k : Nat}

/-- Every state of a run from the invariant meets it. -/
theorem IsRun.inv (hrun : IsRun turns r) (h0 : (r 0).Inv) (n : Nat) : (r n).Inv := by
  induction n with
  | zero => exact h0
  | succ n ih =>
    obtain ⟨-, agenda, draws, hmove⟩ := hrun n
    exact takeTurn_inv hmove (ih.of_core (State.core_withAgenda _ agenda draws))

/-- From `n` on the run stays at micro-step `k` of `op`. -/
def StaysAt (r : Nat → State) (n : Nat) (op : Txn) (k : Nat) : Prop := ∀ m, n ≤ m → (r m).phase = .run op k

/-- A transaction goes on, ends, or stays where it is for ever. -/
theorem IsRun.progress_or_stays (hrun : IsRun turns r) (hp : (r n).phase = .run op k) :
    (∃ m, n ≤ m ∧ ((r m).phase = .run op (k + 1) ∨ (r m).phase = .idle)) ∨ StaysAt r n op k := by
  refine or_iff_not_imp_left.2 fun hnone m hm => ?_
  induction m, hm using Nat.le_induction with
  | base => exact hp
  | succ m hm ih =>
    obtain ⟨-, agenda, draws, hmove⟩ := hrun m
    have hnext : (r (m + 1)).phase = .run op k ∨ (r (m + 1)).phase = .run op (k + 1) ∨ (r (m + 1)).phase = .idle := by
      obtain ⟨-, h⟩ | h := takeTurn_phase_of_busy hmove (by simp [ih])
      · rw [h]
        exact (fsmCycle_effect _).phase ih
      · exact .inl (h.trans ih)
    exact hnext.resolve_right fun h => hnone ⟨m + 1, Nat.le_succ_of_le hm, h⟩

/-- The FSM's move in a run is a cycle, from the state with its schedule at some value. -/
theorem IsRun.cycle {m : Nat} (hrun : IsRun turns r) (hm : turns m = .fsm) :
    ∃ agenda draws, r (m + 1) = fsmCycle { r m with agenda := agenda, draws := draws } := by
  obtain ⟨-, agenda, draws, hmove⟩ := hrun m
  rw [hm] at hmove
  exact ⟨agenda, draws, (Host.Outcome.next.inj hmove).symm⟩

/-- A run does not stay at a micro-step that is no poll. -/
theorem StaysAt.poll (hstays : StaysAt r n op k) (hrun : IsRun turns r) (hfair : FsmFair turns r)
    (hinv : ∀ m, (r m).Inv) : ∃ f want, ∀ s : State, s.microOf op k = some (.poll f want) := by
  by_contra hnot
  have hne (s : State) (f : StatusBit) (want : Bool) : s.microOf op k ≠ some (.poll f want) := fun h =>
    hnot ⟨f, want, State.microOf_poll_any h⟩
  obtain ⟨m, hm, hfsm⟩ := hfair n (by simp [hstays n le_rfl])
  obtain ⟨agenda, draws, hcycle⟩ := hrun.cycle hfsm
  have hp : State.phase { r m with agenda := agenda, draws := draws } = .run op k := hstays m hm
  refine (fsmCycle_effect _).phase_ne_of_not_poll ((hinv m).of_core (State.core_withAgenda _ agenda draws)) hp ?_
    (hcycle ▸ hstays (m + 1) (Nat.le_succ_of_le hm))
  rw [State.micro_run hp]
  exact hne _

section
variable {f : StatusBit} {want : Bool} {m : Nat}

/-- In a run that stays in a poll, no CSR read sees the wanted value. -/
theorem StaysAt.status_ne (hstays : StaysAt r n op k) (hrun : IsRun turns r)
    (hpoll : ∀ s : State, s.microOf op k = some (.poll f want)) (hm : n ≤ m) (hfsm : turns m = .fsm)
    (hs : (r m).sc = 0) : (r m).status f ≠ want := by
  intro hb
  obtain ⟨agenda, draws, hcycle⟩ := hrun.cycle hfsm
  have hp : State.phase { r m with agenda := agenda, draws := draws } = .run op k := hstays m hm
  obtain ⟨-, hpasses, -⟩ := pollAttempt _ op k f want hp ((State.micro_run hp).trans (hpoll _))
  have hnext := hstays (m + 1) (Nat.le_succ_of_le hm)
  rw [hcycle, hpasses hs (by cases f <;> exact hb)] at hnext
  simp at hnext

/-- Inside the settle window the FSM's move counts it down. -/
theorem StaysAt.settles (hstays : StaysAt r n op k) (hrun : IsRun turns r)
    (hpoll : ∀ s : State, s.microOf op k = some (.poll f want)) (hm : n ≤ m) (hfsm : turns m = .fsm)
    (hs : 0 < (r m).sc) : (r (m + 1)).sc = (r m).sc - 1 := by
  obtain ⟨agenda, draws, hcycle⟩ := hrun.cycle hfsm
  have hp : State.phase { r m with agenda := agenda, draws := draws } = .run op k := hstays m hm
  obtain ⟨hsettles, -⟩ := pollAttempt _ op k f want hp ((State.micro_run hp).trans (hpoll _))
  rw [hcycle, hsettles hs]

/-- Once the status bit has the wanted value for good, the settle counter never rises. -/
theorem StaysAt.sc_antitone {N : Nat} (hstays : StaysAt r n op k) (hrun : IsRun turns r)
    (hpoll : ∀ s : State, s.microOf op k = some (.poll f want)) (hN : n ≤ N)
    (hstable : ∀ m, N ≤ m → (r m).status f = want) {i j : Nat} (hi : N ≤ i) (hij : i ≤ j) : (r j).sc ≤ (r i).sc := by
  induction j, hij using Nat.le_induction with
  | base => exact le_rfl
  | succ j hij ih =>
    refine le_trans ?_ ih
    by_cases hfsm : turns j = .fsm
    · by_cases hs : (r j).sc = 0
      · exact absurd (hstable j (hi.trans hij)) (hstays.status_ne hrun hpoll (by omega) hfsm hs)
      · rw [hstays.settles hrun hpoll (by omega) hfsm (Nat.pos_of_ne_zero hs)]
        exact Nat.sub_le _ _
    · obtain ⟨-, agenda, draws, hmove⟩ := hrun j
      exact (takeTurn_sc_of_busy hmove (by simp [hstays j (by omega)]) hfsm).le

/-- A run does not stay in a poll whose status bit has the wanted value for good: the settle window runs out. -/
theorem StaysAt.not_stable {N : Nat} (hstays : StaysAt r n op k) (hrun : IsRun turns r) (hfair : FsmFair turns r)
    (hpoll : ∀ s : State, s.microOf op k = some (.poll f want)) (hN : n ≤ N) :
    ¬ ∀ m, N ≤ m → (r m).status f = want := by
  intro hstable
  have hcountdown (c : Nat) : ∀ i, N ≤ i → (r i).sc ≠ c := by
    induction c using Nat.strong_induction_on with
    | _ c ih =>
      intro i hi hc
      obtain ⟨m, hm, hfsm⟩ := hfair i (by simp [hstays i (by omega)])
      have hle := hstays.sc_antitone hrun hpoll hN hstable hi hm
      by_cases hs : (r m).sc = 0
      · exact hstays.status_ne hrun hpoll (by omega) hfsm hs (hstable m (by omega))
      · have hnext := hstays.settles hrun hpoll (by omega) hfsm (Nat.pos_of_ne_zero hs)
        exact ih (r (m + 1)).sc (by omega) (m + 1) (by omega) rfl
  exact hcountdown _ N le_rfl rfl

end

/-- A run does not stay in a poll of WR_BUSY where the link sends what is in flight. -/
theorem StaysAt.not_pollBusy (hstays : StaysAt r n op k) (hrun : IsRun turns r) (hfair : FsmFair turns r)
    (hlink : LinkResponsive turns r) (hpoll : ∀ s : State, s.microOf op k = some (.poll .wrBusy false)) : False := by
  -- WR_BUSY is 0 at some point, and then for good
  have hfree : ∃ N, n ≤ N ∧ (r N).wrBusy = false := by
    cases hb : (r n).wrBusy with
    | false => exact ⟨n, le_rfl, hb⟩
    | true =>
      obtain ⟨m, hm, -, htx⟩ := hlink.1 n hb
      obtain ⟨-, agenda, draws, hmove⟩ := hrun m
      rw [htx] at hmove
      refine ⟨m + 1, by omega, ?_⟩
      rw [← Host.Outcome.next.inj hmove, linkTx_wrBusy]
  obtain ⟨N, hN, hb⟩ := hfree
  refine hstays.not_stable hrun hfair hpoll hN fun m hm => ?_
  induction m, hm using Nat.le_induction with
  | base => exact hb
  | succ m hm ih =>
    obtain ⟨-, agenda, draws, hmove⟩ := hrun m
    have hp : State.phase { r m with agenda := agenda, draws := draws } = .run op k := hstays m (by omega)
    exact takeTurn_wrBusy_of_poll hmove ((State.micro_run hp).trans (hpoll _)) ih

/-- A run does not stay in a poll of DATA_AVAIL where the link delivers a word and leaves it until the next CSR read. -/
theorem StaysAt.not_pollData (hstays : StaysAt r n op k) (hrun : IsRun turns r) (hfair : FsmFair turns r)
    (hlink : LinkResponsive turns r) (hpoll : ∀ s : State, s.microOf op k = some (.poll .dataAvail true)) : False := by
  have hawaits (m : Nat) (hm : n ≤ m) : (r m).AwaitsData := (State.micro_run (hstays m hm)).trans (hpoll _)
  obtain ⟨m, hm, ⟨w, hrx⟩, hkeeps⟩ := hlink.2 n (hawaits n le_rfl)
  refine hstays.not_stable hrun hfair hpoll (N := m + 1) (by omega) fun j hj => ?_
  induction j using Nat.strong_induction_on with
  | _ j ih =>
    obtain ⟨i, rfl⟩ : ∃ i, j = i + 1 := ⟨j - 1, by omega⟩
    obtain ⟨-, agenda, draws, hmove⟩ := hrun i
    obtain rfl | hi : m = i ∨ m < i := by omega
    · rw [hrx] at hmove
      rw [← Host.Outcome.next.inj hmove]
      rfl
    · have hav : (r i).dataAvail = true := ih i (by omega) hi
      -- no CSR read came since the word, or the poll would have passed
      have hnoread (l : Nat) (hl : m < l) (hli : l < i) : ¬ (r l).ReadsPoll (turns l) := by
        rintro ⟨-, hfsm, hs⟩
        exact hstays.status_ne hrun hpoll (by omega) hfsm hs (ih l (by omega) hl)
      have hnoclear := hkeeps i hi (fun l hl _ => hawaits l (by omega)) hnoread
      obtain hkept | ⟨w', -, hrx'⟩ | ⟨hclear, -⟩ := takeTurn_dataAvail hmove
      · exact hkept.trans hav
      · rw [hrx']
        rfl
      · exact absurd hclear hnoclear

/-- A transaction does not stay at a micro-step for ever. -/
theorem StaysAt.elim (hstays : StaysAt r n op k) (hrun : IsRun turns r) (hfair : FsmFair turns r)
    (hlink : LinkResponsive turns r) (hinv : ∀ m, (r m).Inv) : False := by
  obtain ⟨f, want, hpoll⟩ := hstays.poll hrun hfair hinv
  obtain ⟨rfl, rfl, -⟩ | ⟨rfl, rfl, -⟩ := State.microOf_poll (hpoll (r n))
  · exact hstays.not_pollBusy hrun hfair hlink hpoll
  · exact hstays.not_pollData hrun hfair hlink hpoll

/-- A transaction with `j` micro-steps to go ends. -/
theorem IsRun.ends (hrun : IsRun turns r) (hfair : FsmFair turns r) (hlink : LinkResponsive turns r)
    (hinv : ∀ m, (r m).Inv) (j : Nat) (hp : (r n).phase = .run op k) (hj : op.length < k + j) :
    ∃ m, n ≤ m ∧ (r m).phase = .idle := by
  induction j generalizing n k with
  | zero =>
    obtain ⟨-, hk⟩ := (hinv n).index hp
    omega
  | succ j ih =>
    obtain ⟨m, hm, hnext | hidle⟩ | hstays := hrun.progress_or_stays hp
    · obtain ⟨m', hm', hidle⟩ := ih hnext (by omega)
      exact ⟨m', hm.trans hm', hidle⟩
    · exact ⟨m, hm, hidle⟩
    · exact (hstays.elim hrun hfair hlink hinv).elim

end

/-- Settles O50: the FSM is IDLE, or its transaction ends micro-step by micro-step. -/
theorem responsiveLinkLetsTransactionsEnd : Obligations.ResponsiveLinkLetsTransactionsEnd := by
  intro turns r h0 hrun hfair hlink n
  cases hp : (r n).phase with
  | idle => exact ⟨n, le_rfl, hp⟩
  | run op k => exact hrun.ends hfair hlink (hrun.inv h0) (op.length + 1) hp (by omega)

end Sys2Proof.Machine
end

section
/-! SUPPORT. The companders' ranges and round trips (43_mulaw.md R165, 44_alaw.md R185): a code is the number
`16 * segment + mantissa` and a sign bit, the magnitudes of one code form an interval, and its decoding is the
interval's middle. -/

namespace Sys2Proof.Machine

/-! ### mu-law codes and the intervals they stand for (R162 to R164) -/

theorem ulawMagnitude_bounds (pcm : Int) : 33 ≤ ulawMagnitude pcm ∧ ulawMagnitude pcm ≤ 8192 := by
  unfold ulawMagnitude; omega

/-- Segment `i` below the saturation holds the magnitudes from `32 * 2^i` to `64 * 2^i`. -/
theorem segment_limU_eq_iff {v i : Nat} (hi : i < 8) (hv : 32 ≤ v) :
    segment limU v = i ↔ 32 * 2 ^ i ≤ v ∧ v < 64 * 2 ^ i := by
  obtain ⟨hsearch, -⟩ := segmentSearchFindsSmallest
  rw [hsearch v i hi]
  constructor
  · rintro ⟨hlt, hge⟩
    refine ⟨?_, hlt⟩
    cases i with
    | zero => simpa using hv
    | succ i =>
      have hprev := hge i i.lt_succ_self
      rw [pow_succ]
      omega
  · rintro ⟨hle, hlt⟩
    refine ⟨hlt, fun j hj => ?_⟩
    have hpow : 2 ^ (j + 1) ≤ 2 ^ i := Nat.pow_le_pow_right (by decide) hj
    rw [pow_succ] at hpow
    omega

/-- The code of a magnitude of the interval with segment `i` and mantissa `m`. -/
theorem ulawCode_of_interval {v i m : Nat} (hi : i < 8) (hm : m < 16) (hlo : 2 * (m + 16) * 2 ^ i ≤ v)
    (hhi : v < 2 * (m + 17) * 2 ^ i) : (ulawCode v).toNat = 16 * i + m := by
  have hpos : 0 < 2 ^ i := Nat.two_pow_pos i
  have hquot : v / 2 ^ (i + 1) = m + 16 := by
    rw [pow_succ]
    refine Nat.div_eq_of_lt_le ?_ ?_ <;> nlinarith
  have hseg : segment limU v = i := (segment_limU_eq_iff hi (by nlinarith)).2 ⟨by nlinarith, by nlinarith⟩
  rw [ulawCode_toNat hseg hi, hquot]
  omega

theorem segment_le_length (lim : List Nat) (v : Nat) : segment lim v ≤ lim.length := by
  rw [segment_eq_findIdx]
  exact List.findIdx_le_length

/-- Every magnitude has a code: it is in an interval, or saturated and coded as the last one. -/
theorem exists_ulaw_fields {v : Nat} (hlo : 33 ≤ v) (hhi : v ≤ 8192) :
    ∃ i m, i < 8 ∧ m < 16 ∧ (ulawCode v).toNat = 16 * i + m ∧
      ((v = 8192 ∧ i = 7 ∧ m = 15) ∨ (v < 8192 ∧ 2 * (m + 16) * 2 ^ i ≤ v ∧ v < 2 * (m + 17) * 2 ^ i)) := by
  obtain rfl | hlt := hhi.eq_or_lt
  · exact ⟨7, 15, by decide, by decide, rfl, .inl ⟨rfl, rfl, rfl⟩⟩
  · obtain ⟨-, hsat, -⟩ := segmentSearchFindsSmallest
    have hne : segment limU v ≠ 8 := fun h => by
      have hge := (hsat v).1 h
      omega
    have hle : segment limU v ≤ 8 := segment_le_length limU v
    have hi : segment limU v < 8 := by omega
    obtain ⟨hv, hv'⟩ := (segment_limU_eq_iff hi (by omega)).1 rfl
    generalize segment limU v = i at hi hv hv'
    have hpos : 0 < 2 ^ i := Nat.two_pow_pos i
    obtain ⟨hq, hq'⟩ : 16 ≤ v / (2 * 2 ^ i) ∧ v / (2 * 2 ^ i) < 32 :=
      ⟨(Nat.le_div_iff_mul_le (by omega)).2 (by omega), (Nat.div_lt_iff_lt_mul (by omega)).2 (by omega)⟩
    have hdiv := Nat.div_add_mod v (2 * 2 ^ i)
    have hmod := Nat.mod_lt v (y := 2 * 2 ^ i) (by omega)
    obtain ⟨m, hm⟩ : ∃ m, v / (2 * 2 ^ i) = m + 16 := ⟨v / (2 * 2 ^ i) - 16, by omega⟩
    rw [hm] at hdiv hq'
    have hlower : 2 * (m + 16) * 2 ^ i ≤ v := Nat.le.intro (k := v % (2 * 2 ^ i)) (Eq.trans (by ring) hdiv)
    have hupper : v < 2 * (m + 17) * 2 ^ i := by nlinarith
    exact ⟨i, m, hi, by omega, ulawCode_of_interval hi (by omega) hlower hupper, .inr ⟨hlt, hlower, hupper⟩⟩

theorem ulawCode_lt {v : Nat} (hlo : 33 ≤ v) (hhi : v ≤ 8192) : (ulawCode v).toNat < 128 := by
  obtain ⟨i, m, hi, hm, hcode, -⟩ := exists_ulaw_fields hlo hhi
  omega

/-- Joining the sign bit to a code below it adds 128. -/
theorem toNat_xor_signBit {c : Byte} (h : c.toNat < 128) : (c ^^^ 0x80).toNat = c.toNat + 128 := by
  revert h c; decide

/-- The complement of an encoded sample: its magnitude's code, and 128 where the shifted sample is negative. -/
theorem not_encodeUlaw_toNat (pcm : Word) :
    (~~~encodeUlaw pcm).toNat =
      (ulawCode (ulawMagnitude pcm.toInt)).toNat + if pcm.toInt / 4 < 0 then 128 else 0 := by
  obtain ⟨hlo, hhi⟩ := ulawMagnitude_bounds pcm.toInt
  have hlt := ulawCode_lt hlo hhi
  have hpos : ∀ c : Byte, ~~~(c ^^^ 0xFF) = c := by decide
  have hneg : ∀ c : Byte, ~~~(c ^^^ 0x7F) = c ^^^ 0x80 := by decide
  unfold encodeUlaw ulawMask
  split
  · rw [hneg, toNat_xor_signBit hlt]
  · rw [hpos, Nat.add_zero]

/-- The decoding of a code with segment `i` and mantissa `m`, the sign bit clear or set in the complement. -/
theorem decodeUlaw_of_fields {code : Byte} {i m : Nat} (hi : i < 8) (hm : m < 16) :
    ((~~~code).toNat = 16 * i + m → (decodeUlaw code).toInt = (8 * m + 132) * 2 ^ i - 132) ∧
    ((~~~code).toNat = 16 * i + m + 128 → (decodeUlaw code).toInt = 132 - (8 * m + 132) * 2 ^ i) := by
  rw [decodeUlaw_toInt, ulawExpand_eq]
  constructor <;> intro h
  · have hmant : (~~~code).toNat % 16 = m := by omega
    have hseg : (~~~code).toNat / 16 % 8 = i := by omega
    rw [hmant, hseg, if_neg (by omega)]
    push_cast
    ring
  · have hmant : (~~~code).toNat % 16 = m := by omega
    have hseg : (~~~code).toNat / 16 % 8 = i := by omega
    rw [hmant, hseg, if_pos (by omega)]
    push_cast
    ring

/-! ### The mu-law round trip (R165) -/

/-- A round trip's error, where the code's segment is `i`: about half a step of the segment below saturation, and the
distance from the largest decoded value in it. -/
theorem ulaw_error (pcm : Word) :
    ∃ i < 8, (255 - (encodeUlaw pcm).toNat) / 16 % 8 = i ∧
      (((decodeUlaw (encodeUlaw pcm)).toInt - pcm.toInt).natAbs ≤ 4 * 2 ^ i + 3 ∨
        i = 7 ∧ (32636 ≤ pcm.toInt ∧ (decodeUlaw (encodeUlaw pcm)).toInt = 32124 ∨
          pcm.toInt ≤ -32633 ∧ (decodeUlaw (encodeUlaw pcm)).toInt = -32124)) := by
  obtain ⟨hlo, hhi⟩ := ulawMagnitude_bounds pcm.toInt
  obtain ⟨i, m, hi, hm, hcode, hinterval⟩ := exists_ulaw_fields hlo hhi
  have hnot := not_encodeUlaw_toNat pcm
  rw [hcode] at hnot
  have hcompl : (~~~encodeUlaw pcm).toNat = 255 - (encodeUlaw pcm).toNat := BitVec.toNat_not
  obtain ⟨hdecpos, hdecneg⟩ := decodeUlaw_of_fields (code := encodeUlaw pcm) hi hm
  refine ⟨i, hi, by split at hnot <;> omega, ?_⟩
  have hmag : ulawMagnitude pcm.toInt = min (pcm.toInt / 4).natAbs 8159 + 33 := rfl
  obtain ⟨hsat, rfl, rfl⟩ | ⟨hlt, hlower, hupper⟩ := hinterval
  · right
    split at hnot
    · have := hdecneg hnot
      norm_num at this
      omega
    · have := hdecpos hnot
      norm_num at this
      omega
  · left
    -- in the two unknowns `2^i` and `m * 2^i` everything is linear
    have hlo' : 2 * (m * 2 ^ i) + 32 * 2 ^ i ≤ ulawMagnitude pcm.toInt := le_of_eq_of_le (by ring) hlower
    have hhi' : ulawMagnitude pcm.toInt < 2 * (m * 2 ^ i) + 34 * 2 ^ i := lt_of_lt_of_eq hupper (by ring)
    have hval : ((8 * m + 132) * 2 ^ i : Int) = ((8 * (m * 2 ^ i) + 132 * 2 ^ i : Nat) : Int) := by push_cast; ring
    have hpos : 0 < 2 ^ i := Nat.two_pow_pos i
    rw [hval] at hdecpos hdecneg
    generalize m * 2 ^ i = x, 2 ^ i = p at *
    split at hnot
    · have hdec := hdecneg hnot
      omega
    · have hdec := hdecpos hnot
      omega

/-- The fields of a byte: a segment, a mantissa and a sign bit. -/
theorem exists_code_fields (u : Byte) :
    ∃ i m, i < 8 ∧ m < 16 ∧ (u.toNat = 16 * i + m ∨ u.toNat = 16 * i + m + 128) :=
  ⟨u.toNat / 16 % 8, u.toNat % 16, by omega, by omega, by have := u.isLt; omega⟩

/-- Bytes whose complements are the same number are the same. -/
theorem eq_of_not_toNat_eq {x y : Byte} (h : (~~~x).toNat = (~~~y).toNat) : x = y := by
  rw [BitVec.toNat_not, BitVec.toNat_not] at h
  exact BitVec.eq_of_toNat_eq (by have := x.isLt; have := y.isLt; omega)

/-- The decoded value lies in the middle of its code's interval, on the side of its sign; 0x7F decodes to 0, which has
the other sign. -/
theorem encodeUlaw_decodeUlaw {code : Byte} (hne : code ≠ 0x7F) : encodeUlaw (decodeUlaw code) = code := by
  obtain ⟨i, m, hi, hm, hcode⟩ := exists_code_fields (~~~code)
  obtain ⟨hdecpos, hdecneg⟩ := decodeUlaw_of_fields (code := code) hi hm
  have hval : ((8 * m + 132) * 2 ^ i : Int) = ((8 * (m * 2 ^ i) + 132 * 2 ^ i : Nat) : Int) := by push_cast; ring
  have hpos : 0 < 2 ^ i := Nat.two_pow_pos i
  have hle : 8 * (m * 2 ^ i) + 132 * 2 ^ i ≤ 32256 := by
    calc 8 * (m * 2 ^ i) + 132 * 2 ^ i = (8 * m + 132) * 2 ^ i := by ring
      _ ≤ (8 * 15 + 132) * 2 ^ 7 := by gcongr <;> omega
      _ = 32256 := by decide
  have hnot := not_encodeUlaw_toNat (decodeUlaw code)
  have hmag : ulawMagnitude (decodeUlaw code).toInt = min ((decodeUlaw code).toInt / 4).natAbs 8159 + 33 := rfl
  have hsame : (ulawCode (2 * (m * 2 ^ i) + 33 * 2 ^ i)).toNat = 16 * i + m :=
    ulawCode_of_interval hi hm (by nlinarith) (by nlinarith)
  rw [hval] at hdecpos hdecneg
  refine eq_of_not_toNat_eq ?_
  obtain h | h := hcode
  · have hdec := hdecpos h
    have hv : ulawMagnitude (decodeUlaw code).toInt = 2 * (m * 2 ^ i) + 33 * 2 ^ i := by omega
    rw [hnot, hv, hsame, if_neg (by omega), h, Nat.add_zero]
  · have hdec := hdecneg h
    have hv : ulawMagnitude (decodeUlaw code).toInt = 2 * (m * 2 ^ i) + 33 * 2 ^ i := by omega
    -- only the code 0x7F has the value 0
    have hvalue : 1 < 2 ^ i ∨ 0 < m * 2 ^ i := by
      obtain rfl | hi0 := Nat.eq_zero_or_pos i
      · refine .inr (Nat.mul_pos (Nat.pos_of_ne_zero fun hm0 => hne ?_) hpos)
        exact eq_of_not_toNat_eq (h.trans (by rw [hm0]; rfl))
      · exact .inl (Nat.one_lt_two_pow (by omega))
    have hsign : (decodeUlaw code).toInt / 4 < 0 := by omega
    rw [hnot, hv, hsame, if_pos hsign, h]

/-- Settles O58, by the error of a round trip and the round trip of a code. -/
theorem ulawRoundTrip : Obligations.UlawRoundTrip := by
  refine ⟨?_, fun _ => encodeUlaw_decodeUlaw, by decide⟩
  rintro pcm e rfl
  obtain ⟨i, hi, hseg, herror⟩ := ulaw_error pcm
  have hpos : 0 < 2 ^ i := Nat.two_pow_pos i
  have hpow : 2 ^ i ≤ 2 ^ 7 := Nat.pow_le_pow_right (by decide) (by omega)
  have hlow := pcm.le_toInt
  have hhigh := pcm.toInt_lt
  rw [hseg]
  obtain hsmall | ⟨rfl, hsat⟩ := herror
  · refine ⟨by omega, by omega, fun h => by omega, ?_⟩
    rintro rfl
    decide
  · refine ⟨by omega, by omega, fun h => BitVec.eq_of_toInt_eq ?_, ?_⟩
    · have hmin : pcm.toInt = -32768 := by omega
      exact hmin
    · rintro rfl
      decide

/-! ### mu-law ranges (R162 to R164) -/

theorem segment_limU_ulawMagnitude_eq_eight_iff (pcm : Int) :
    segment limU (ulawMagnitude pcm) = 8 ↔ 32636 ≤ pcm ∨ pcm ≤ -32633 := by
  obtain ⟨-, hsat, -⟩ := segmentSearchFindsSmallest
  rw [hsat, ulawMagnitude]
  omega

/-- A saturated sample has the last code, signed. -/
theorem encodeUlaw_of_magnitude_max {pcm : Word} (h : ulawMagnitude pcm.toInt = 8192) :
    encodeUlaw pcm = 0x7F ^^^ ulawMask pcm.toInt := by
  rw [encodeUlaw, h, ulawCode_saturated]

/-- 0x7F would be the code of a negative sample whose shifted magnitude is 0. -/
theorem encodeUlaw_ne (pcm : Word) : encodeUlaw pcm ≠ 0x7F := by
  intro h
  have hnot := not_encodeUlaw_toNat pcm
  have hu : (~~~(0x7F : Byte)).toNat = 128 := rfl
  obtain ⟨hlo, hhi⟩ := ulawMagnitude_bounds pcm.toInt
  obtain ⟨i, m, hi, hm, hcode, hinterval⟩ := exists_ulaw_fields hlo hhi
  have hmag : ulawMagnitude pcm.toInt = min (pcm.toInt / 4).natAbs 8159 + 33 := rfl
  rw [h, hu, hcode] at hnot
  split at hnot
  · obtain ⟨rfl, rfl⟩ : i = 0 ∧ m = 0 := by omega
    omega
  · omega

/-- The decoded values are the multiples of 4 that the codes' middles give. -/
theorem decodeUlaw_range (code : Byte) :
    (decodeUlaw code).toInt % 4 = 0 ∧ (decodeUlaw code).toInt.natAbs ≤ 32124 := by
  have hle := ulawExpand_le (~~~code)
  have hdec := decodeUlaw_toInt code
  have hge : 132 ≤ ulawExpand (~~~code) := by
    rw [ulawExpand_eq]
    exact le_trans (by omega) (Nat.le_mul_of_pos_right _ (Nat.two_pow_pos _))
  have hmod : 4 ∣ ulawExpand (~~~code) := by
    rw [ulawExpand_eq]
    exact Dvd.dvd.mul_right (by omega) _
  split at hdec <;> omega

/-! ### A-law ranges (R182 to R184) -/

theorem segment_limA_le (pcm : Word) : segment limA (alawMagnitude pcm.toInt) ≤ 7 := by
  obtain ⟨-, -, -, hsat⟩ := segmentSearchFindsSmallest
  have hle : segment limA (alawMagnitude pcm.toInt) ≤ 8 := segment_le_length limA _
  have hne : segment limA (alawMagnitude pcm.toInt) ≠ 8 := fun h => by
    have hmag := alawMagnitude_le pcm
    have hge := (hsat _).1 h
    omega
  omega

theorem alawCode_of_saturated {v : Nat} (h : segment limA v = 8) : alawCode v = 0x7F := by
  simp only [alawCode, h, if_true]

theorem decodeAlaw_range (code : Byte) : (decodeAlaw code).toInt ≠ 0 ∧ (decodeAlaw code).toInt.natAbs ≤ 32256 := by
  have hle := alawExpand_le (code ^^^ 0x55)
  have hdec := decodeAlaw_toInt code
  have hpos : 0 < alawExpand (code ^^^ 0x55) := by
    rw [alawExpand_eq]
    split
    · omega
    · exact Nat.mul_pos (by omega) (Nat.two_pow_pos _)
  split at hdec <;> omega

/-- Settles O57, by the magnitude at which each law saturates and the bounds of the decoded values. -/
theorem companderRanges : Obligations.CompanderRanges := by
  refine ⟨fun pcm => ⟨segment_limU_ulawMagnitude_eq_eight_iff _, fun h => ?_, fun h => ?_, encodeUlaw_ne pcm⟩,
    decodeUlaw_range, fun pcm => ⟨alawMagnitude_le pcm, segment_limA_le pcm⟩, fun v h => ?_, by decide, by decide,
    decodeAlaw_range⟩
  · have hmax : ulawMagnitude pcm.toInt = 8192 := by rw [ulawMagnitude]; omega
    rw [encodeUlaw_of_magnitude_max hmax, ulawMask, if_neg (by omega)]
    rfl
  · have hmax : ulawMagnitude pcm.toInt = 8192 := by rw [ulawMagnitude]; omega
    rw [encodeUlaw_of_magnitude_max hmax, ulawMask, if_pos (by omega)]
    rfl
  · rw [alawCode_of_saturated h]
    decide

end Sys2Proof.Machine
end

section
/-! SUPPORT. The A-law round trip (44_alaw.md R185), as the mu-law one: the magnitudes of one code form an interval, and
its decoding is eight times the interval's middle. -/

namespace Sys2Proof.Machine

/-! ### A-law codes and the intervals they stand for (R182, R184) -/

/-- How many magnitudes share a code of segment `i`. -/
def alawStep (i : Nat) : Nat := 2 ^ max i 1

/-- The quotient by the step at which segment `i` begins: segment 0 begins at 0, the others at the sixteenth step. -/
def alawBias (i : Nat) : Nat := if i = 0 then 0 else 16

/-- A step is even. -/
theorem exists_alawStep_eq (i : Nat) : ∃ h, 0 < h ∧ alawStep i = 2 * h := by
  obtain ⟨j, hj⟩ : ∃ j, max i 1 = j + 1 := ⟨max i 1 - 1, by omega⟩
  exact ⟨2 ^ j, Nat.two_pow_pos j, by rw [alawStep, hj, pow_succ, Nat.mul_comm]⟩

theorem alawStep_pos (i : Nat) : 0 < alawStep i := Nat.two_pow_pos _

/-- The encoder's divisor is the step. -/
theorem alawStep_eq_ite (i : Nat) : (if i < 2 then 2 else 2 ^ i) = alawStep i := by
  unfold alawStep
  split
  · rw [max_eq_right (by omega), pow_one]
  · rw [max_eq_left (by omega)]

/-- Segment `i` holds sixteen steps from its first one. -/
theorem segment_limA_eq_iff {v i : Nat} (hi : i < 8) :
    segment limA v = i ↔ alawBias i * alawStep i ≤ v ∧ v < (alawBias i + 16) * alawStep i := by
  obtain ⟨-, -, hsearch, -⟩ := segmentSearchFindsSmallest
  rw [hsearch v i hi]
  cases i with
  | zero => simp [alawBias, alawStep]
  | succ i =>
    have hstep : alawStep (i + 1) = 2 ^ (i + 1) := by rw [alawStep, max_eq_left (by omega)]
    have hbias : alawBias (i + 1) = 16 := rfl
    rw [hstep, hbias]
    constructor
    · rintro ⟨hlt, hge⟩
      have hprev := hge i i.lt_succ_self
      rw [pow_succ] at hlt ⊢
      omega
    · rintro ⟨hle, hlt⟩
      refine ⟨hlt, fun j hj => ?_⟩
      have hpow : 2 ^ (j + 1) ≤ 2 ^ (i + 1) := Nat.pow_le_pow_right (by decide) hj
      rw [pow_succ 2 j] at hpow
      omega

/-- The code of a magnitude of the interval with segment `i` and mantissa `m`. -/
theorem alawCode_of_interval {v i m : Nat} (hi : i < 8) (hm : m < 16) (hlo : (m + alawBias i) * alawStep i ≤ v)
    (hhi : v < (m + alawBias i + 1) * alawStep i) : (alawCode v).toNat = 16 * i + m := by
  have hquot : v / alawStep i = m + alawBias i := Nat.div_eq_of_lt_le hlo hhi
  have hseg : segment limA v = i :=
    (segment_limA_eq_iff hi).2 ⟨le_trans (Nat.mul_le_mul_right _ (by omega)) hlo,
      lt_of_lt_of_le hhi (Nat.mul_le_mul_right _ (by omega))⟩
  have hmod : (m + alawBias i) % 16 = m := by unfold alawBias; split <;> omega
  rw [alawCode_toNat hseg hi, alawStep_eq_ite, hquot, hmod]

/-- Every magnitude of a sample is in the interval of a code. -/
theorem exists_alaw_fields {v : Nat} (hv : v ≤ 4095) :
    ∃ i m, i < 8 ∧ m < 16 ∧ (alawCode v).toNat = 16 * i + m ∧
      (m + alawBias i) * alawStep i ≤ v ∧ v < (m + alawBias i + 1) * alawStep i := by
  obtain ⟨-, -, -, hsat⟩ := segmentSearchFindsSmallest
  have hne : segment limA v ≠ 8 := fun h => by
    have hge := (hsat v).1 h
    omega
  have hle : segment limA v ≤ 8 := segment_le_length limA v
  have hi : segment limA v < 8 := by omega
  obtain ⟨hlo, hhi⟩ := (segment_limA_eq_iff hi).1 rfl
  generalize segment limA v = i at hi hlo hhi
  have hpos := alawStep_pos i
  have hq : alawBias i ≤ v / alawStep i := (Nat.le_div_iff_mul_le hpos).2 hlo
  have hq' : v / alawStep i < alawBias i + 16 := (Nat.div_lt_iff_lt_mul hpos).2 hhi
  obtain ⟨m, hm⟩ : ∃ m, v / alawStep i = m + alawBias i := ⟨v / alawStep i - alawBias i, by omega⟩
  have hlower : (m + alawBias i) * alawStep i ≤ v := hm ▸ Nat.div_mul_le_self v _
  have hupper : v < (m + alawBias i + 1) * alawStep i := by
    rw [← hm, Nat.mul_comm]
    exact Nat.lt_mul_div_succ v hpos
  exact ⟨i, m, hi, by omega, alawCode_of_interval hi (by omega) hlower hupper, hlower, hupper⟩

theorem alawCode_lt {v : Nat} (hv : v ≤ 4095) : (alawCode v).toNat < 128 := by
  obtain ⟨i, m, hi, hm, hcode, -⟩ := exists_alaw_fields hv
  omega

/-- An encoded sample without its mask: its magnitude's code, and 128 where the scaled sample is not negative. -/
theorem encodeAlaw_xor_toNat (pcm : Word) :
    (encodeAlaw pcm ^^^ 0x55).toNat =
      (alawCode (alawMagnitude pcm.toInt)).toNat + if 0 ≤ pcm.toInt.tdiv 8 then 128 else 0 := by
  have hlt := alawCode_lt (alawMagnitude_le pcm)
  have hpos : ∀ c : Byte, c ^^^ 0xD5 ^^^ 0x55 = c ^^^ 0x80 := by decide
  have hneg : ∀ c : Byte, c ^^^ 0x55 ^^^ 0x55 = c := by decide
  unfold encodeAlaw alawMask alawScaled
  split
  · rw [hpos, toNat_xor_signBit hlt]
  · rw [hneg, Nat.add_zero]

/-- The expanded magnitude is eight times the middle of the code's interval. -/
theorem alawExpand_of_fields {x : Byte} {i m : Nat} (hi : x.toNat / 16 % 8 = i) (hm : x.toNat % 16 = m) :
    alawExpand x = 8 * ((m + alawBias i) * alawStep i) + 4 * alawStep i := by
  rw [alawExpand_eq, hi, hm]
  cases i with
  | zero => simp [alawBias, alawStep]; omega
  | succ i =>
    have hstep : alawStep (i + 1) = 2 * 2 ^ i := by rw [alawStep, max_eq_left (by omega), pow_succ, Nat.mul_comm]
    have hbias : alawBias (i + 1) = 16 := rfl
    rw [if_neg (by omega), hstep, hbias, Nat.add_sub_cancel]
    ring

/-- The decoding of a code with segment `i` and mantissa `m`, by the sign bit of the unmasked code. -/
theorem decodeAlaw_of_fields {code : Byte} {i m : Nat} (hi : i < 8) (hm : m < 16) :
    ((code ^^^ 0x55).toNat = 16 * i + m →
      (decodeAlaw code).toInt = -((8 * ((m + alawBias i) * alawStep i) + 4 * alawStep i : Nat) : Int)) ∧
    ((code ^^^ 0x55).toNat = 16 * i + m + 128 →
      (decodeAlaw code).toInt = ((8 * ((m + alawBias i) * alawStep i) + 4 * alawStep i : Nat) : Int)) := by
  rw [decodeAlaw_toInt]
  constructor <;> intro h
  · rw [alawExpand_of_fields (i := i) (m := m) (by omega) (by omega), if_neg (by omega)]
  · rw [alawExpand_of_fields (i := i) (m := m) (by omega) (by omega), if_pos (by omega)]

/-! ### The A-law round trip (R185) -/

/-- The scaled sample in terms of the floor division that linear arithmetic knows. -/
theorem tdiv_eight (x : Int) : x.tdiv 8 = if 0 ≤ x then x / 8 else -(-x / 8) := by
  split
  · exact Int.tdiv_eq_ediv_of_nonneg ‹_›
  · have h : (-x).tdiv 8 = -x / 8 := Int.tdiv_eq_ediv_of_nonneg (by omega)
    rw [Int.neg_tdiv] at h
    omega

/-- The decoded value lies in its code's interval, on the side of its sign. -/
theorem encodeAlaw_decodeAlaw (code : Byte) : encodeAlaw (decodeAlaw code) = code := by
  obtain ⟨i, m, hi, hm, hcode⟩ := exists_code_fields (code ^^^ 0x55)
  obtain ⟨hdecneg, hdecpos⟩ := decodeAlaw_of_fields (code := code) hi hm
  obtain ⟨h, hpos, hstep⟩ := exists_alawStep_eq i
  have hinterval {v : Nat} (hlo : (m + alawBias i) * alawStep i ≤ v)
      (hhi : v < (m + alawBias i) * alawStep i + alawStep i) : (alawCode v).toNat = 16 * i + m :=
    alawCode_of_interval hi hm hlo (lt_of_lt_of_eq hhi (Nat.succ_mul _ _).symm)
  have hxor := encodeAlaw_xor_toNat (decodeAlaw code)
  have hmag := alawMagnitude_eq (decodeAlaw code).toInt
  rw [tdiv_eight] at hxor hmag
  have hsame : (encodeAlaw (decodeAlaw code) ^^^ 0x55).toNat = (code ^^^ 0x55).toNat := by
    obtain hs | hs := hcode
    · have hdec := hdecneg hs
      have hv := hinterval (v := alawMagnitude (decodeAlaw code).toInt) (by omega) (by omega)
      rw [hxor, hv, hs, if_neg (by omega), Nat.add_zero]
    · have hdec := hdecpos hs
      have hv := hinterval (v := alawMagnitude (decodeAlaw code).toInt) (by omega) (by omega)
      rw [hxor, hv, hs, if_pos (by omega)]
  exact (BitVec.xor_left_inj _).1 (BitVec.eq_of_toNat_eq hsame)

/-- A sample's code with its segment `i` and mantissa `m`, the interval of its magnitude, and its decoding. -/
theorem alaw_roundTrip_fields (pcm : Word) :
    ∃ i m, i < 8 ∧ m < 16 ∧ ((encodeAlaw pcm).toNat ^^^ 0x55) / 16 % 8 = i ∧
      (m + alawBias i) * alawStep i ≤ alawMagnitude pcm.toInt ∧
      alawMagnitude pcm.toInt < (m + alawBias i) * alawStep i + alawStep i ∧
      (decodeAlaw (encodeAlaw pcm)).toInt =
        if 0 ≤ pcm.toInt.tdiv 8 then ((8 * ((m + alawBias i) * alawStep i) + 4 * alawStep i : Nat) : Int)
        else -((8 * ((m + alawBias i) * alawStep i) + 4 * alawStep i : Nat) : Int) := by
  obtain ⟨i, m, hi, hm, hcode, hlo, hhi⟩ := exists_alaw_fields (alawMagnitude_le pcm)
  obtain ⟨hdecneg, hdecpos⟩ := decodeAlaw_of_fields (code := encodeAlaw pcm) hi hm
  have hxor := encodeAlaw_xor_toNat pcm
  rw [hcode] at hxor
  have hnat : (encodeAlaw pcm ^^^ 0x55).toNat = (encodeAlaw pcm).toNat ^^^ 0x55 := BitVec.toNat_xor _ _
  refine ⟨i, m, hi, hm, ?_, hlo, lt_of_lt_of_eq hhi (Nat.succ_mul _ _), ?_⟩
  · rw [← hnat]
    split at hxor <;> omega
  · split at hxor
    · rw [if_pos ‹_›]
      exact hdecpos hxor
    · rw [if_neg ‹_›]
      exact hdecneg hxor

/-- The largest error is a little over half a step: 7 more, from the division by 8. -/
theorem alaw_error {x : Int} {y : Int} {v a p : Nat} (hv : (v : Int) = if 0 ≤ x.tdiv 8 then x.tdiv 8 else -x.tdiv 8 - 1)
    (hlo : a ≤ v) (hhi : v < a + p)
    (hy : y = if 0 ≤ x.tdiv 8 then ((8 * a + 4 * p : Nat) : Int) else -((8 * a + 4 * p : Nat) : Int)) :
    (y - x).natAbs ≤ 4 * p + 7 := by
  rw [tdiv_eight] at hv hy
  omega

theorem segmentStep_eq (i : Nat) : 16 * 2 ^ (i - 1) = 8 * alawStep i := by
  unfold alawStep
  cases i with
  | zero => rfl
  | succ i => rw [max_eq_left (by omega), Nat.add_sub_cancel, pow_succ]; omega

/-- Below the last segment a step is at most 64. -/
theorem alawStep_le {i : Nat} (hi : i < 7) : alawStep i ≤ 64 := by
  have h : alawStep i ≤ 2 ^ 6 := Nat.pow_le_pow_right (by decide) (by omega)
  exact h

/-- Settles O59: the error is at most half a step and 7, which is 519 only in the last segment, at the top of an
interval of negative samples; the sixteenth of these lies below -32768. -/
theorem alawRoundTrip : Obligations.AlawRoundTrip := by
  refine ⟨?_, encodeAlaw_decodeAlaw, by decide⟩
  rintro pcm e rfl
  obtain ⟨i, m, hi, hm, hseg, hlo, hhi, hdec⟩ := alaw_roundTrip_fields pcm
  have hmag := alawMagnitude_eq pcm.toInt
  have herror := alaw_error hmag hlo hhi hdec
  have hle := alawMagnitude_le pcm
  have hmin := pcm.le_toInt
  obtain ⟨h, hpos, hstep⟩ := exists_alawStep_eq i
  rw [hseg, segmentStep_eq]
  by_cases h7 : i = 7
  · subst h7
    have hs : alawStep 7 = 128 := rfl
    have hb : alawBias 7 = 16 := rfl
    rw [hs] at herror hlo hhi hdec ⊢
    rw [hb] at hlo hhi hdec
    refine ⟨by omega, by omega, ?_⟩
    rw [tdiv_eight] at hmag hdec
    constructor
    · intro he
      exact ⟨14 - m, by omega, by omega⟩
    · rintro ⟨k, hk, hx⟩
      omega
  · have hsmall := alawStep_le (i := i) (by omega)
    have hbound : (m + alawBias i) * alawStep i + alawStep i ≤ 2048 := by
      have hbias : alawBias i ≤ 16 := by unfold alawBias; split <;> omega
      calc (m + alawBias i) * alawStep i + alawStep i = (m + alawBias i + 1) * alawStep i := (Nat.succ_mul _ _).symm
        _ ≤ 32 * 64 := Nat.mul_le_mul (by omega) hsmall
    refine ⟨by omega, by omega, by omega, ?_⟩
    rintro ⟨k, hk, hx⟩
    rw [tdiv_eight] at hmag
    omega

end Sys2Proof.Machine
end
